-- ==== Sys2Proof/Word.lean ====
section
/-! DEFINITION. The two word types of the block (R8): 8-bit registers and memory bytes, 16-bit pairs and addresses. -/

namespace Sys2Proof

/-- `u8` of R12: an 8-bit register, a memory byte, an immediate byte. -/
abbrev Byte := BitVec 8

/-- `u16` of R12: a register pair, SP, PC, an address. -/
abbrev Word := BitVec 16

end Sys2Proof
end

