-- ==== Sys2Proof/Machine/Bits.lean ====
section
/-! DEFINITION. Bit-field, byte-order and extension helpers (R13, R14, R51, R52, R162). They stand here, not in Word.lean, so
that a repair may mend them. -/

namespace Sys2Proof

/-- `v[15:8]`, the high half of a pair (R52). -/
def hi (v : Word) : Byte := v.extractLsb' 8 8

/-- `v[7:0]`, the low half of a pair (R52). -/
def lo (v : Word) : Byte := v.extractLsb' 0 8

/-- `(h << 8) | l`, the 16-bit view of two halves (R51). -/
def join (h l : Byte) : Word := h ++ l

/-- `sext_16` (R14). -/
def sext16 (v : Byte) : Word := v.signExtend 16

/-- `0xFF00 | v`, a high-page address (R162). -/
def highPage (v : Byte) : Word := join 0xFF v

/-- Byte `i` (from 0) of a number, least significant first. -/
def byteOf (w i : Nat) : Byte := BitVec.ofNat 8 (w >>> (8 * i))

end Sys2Proof
end

