-- ==== Sys2Proof/Syntax.lean ====
section
/-! DEFINITION. The abstract syntax: the operand kinds of R153 to R158, and `Instr`, one constructor per row of
spec/opcode_table.json: first the rows with immediate operands, then the others, each in the table's order. A constructor's name is the row's mnemonic with
`at` for a memory operand: `ld_atHL_b` is `LD (HL),B`, `ld_atHLI_a` is `LD (HL+),A`, `rlc_atHL` is `RLC (HL)`.
An `e8` operand is kept as its byte, which R161 reads as a signed displacement. -/

namespace Sys2Proof

/-- The 8-bit registers of R153; index 6, the byte at HL, is the constructors with `atHL`. -/
inductive Reg8 where
  | b | c | d | e | h | l | a
  deriving DecidableEq, Repr

/-- `r16` (R154). -/
inductive Reg16 where
  | bc | de | hl | sp
  deriving DecidableEq, Repr

/-- `r16stk` (R155). -/
inductive RegStk where
  | bc | de | hl | af
  deriving DecidableEq, Repr

/-- `cc` (R156). -/
inductive Cond where
  | nz | z | nc | c
  deriving DecidableEq, Repr

/-- The ALU operations (R157). -/
inductive AluOp where
  | add | adc | sub | sbc | and | xor | or | cp
  deriving DecidableEq, Repr

/-- The CB rotates and shifts (R158). -/
inductive ShiftOp where
  | rlc | rrc | rl | rr | sla | sra | swap | srl
  deriving DecidableEq, Repr

/-- The instructions. Each constructor's comment gives its assembler form, its opcode and the rule of its meaning. -/
inductive Instr where
  /-- LD BC,n16 (01, R251) -/
  | ld_bc_n16 (v : Word)
  /-- LD B,n8 (06, R202) -/
  | ld_b_n8 (n : Byte)
  /-- LD (a16),SP (08, R252) -/
  | ld_atA16_sp (a : Word)
  /-- LD C,n8 (0E, R202) -/
  | ld_c_n8 (n : Byte)
  /-- LD DE,n16 (11, R251) -/
  | ld_de_n16 (v : Word)
  /-- LD D,n8 (16, R202) -/
  | ld_d_n8 (n : Byte)
  /-- JR e8 (18, R454) -/
  | jr_e8 (e : Byte)
  /-- LD E,n8 (1E, R202) -/
  | ld_e_n8 (n : Byte)
  /-- JR NZ,e8 (20, R455) -/
  | jr_nz_e8 (e : Byte)
  /-- LD HL,n16 (21, R251) -/
  | ld_hl_n16 (v : Word)
  /-- LD H,n8 (26, R202) -/
  | ld_h_n8 (n : Byte)
  /-- JR Z,e8 (28, R455) -/
  | jr_z_e8 (e : Byte)
  /-- LD L,n8 (2E, R202) -/
  | ld_l_n8 (n : Byte)
  /-- JR NC,e8 (30, R455) -/
  | jr_nc_e8 (e : Byte)
  /-- LD SP,n16 (31, R251) -/
  | ld_sp_n16 (v : Word)
  /-- LD (HL),n8 (36, R205) -/
  | ld_atHL_n8 (n : Byte)
  /-- JR C,e8 (38, R455) -/
  | jr_c_e8 (e : Byte)
  /-- LD A,n8 (3E, R202) -/
  | ld_a_n8 (n : Byte)
  /-- JP NZ,a16 (C2, R452) -/
  | jp_nz_a16 (a : Word)
  /-- JP a16 (C3, R451) -/
  | jp_a16 (a : Word)
  /-- CALL NZ,a16 (C4, R457) -/
  | call_nz_a16 (a : Word)
  /-- ADD A,n8 (C6, R305) -/
  | add_a_n8 (n : Byte)
  /-- JP Z,a16 (CA, R452) -/
  | jp_z_a16 (a : Word)
  /-- CALL Z,a16 (CC, R457) -/
  | call_z_a16 (a : Word)
  /-- CALL a16 (CD, R456) -/
  | call_a16 (a : Word)
  /-- ADC A,n8 (CE, R308) -/
  | adc_a_n8 (n : Byte)
  /-- JP NC,a16 (D2, R452) -/
  | jp_nc_a16 (a : Word)
  /-- CALL NC,a16 (D4, R457) -/
  | call_nc_a16 (a : Word)
  /-- SUB n8 (D6, R311) -/
  | sub_n8 (n : Byte)
  /-- JP C,a16 (DA, R452) -/
  | jp_c_a16 (a : Word)
  /-- CALL C,a16 (DC, R457) -/
  | call_c_a16 (a : Word)
  /-- SBC A,n8 (DE, R314) -/
  | sbc_a_n8 (n : Byte)
  /-- LDH (a8),A (E0, R213) -/
  | ldh_atA8_a (a : Byte)
  /-- AND n8 (E6, R317) -/
  | and_n8 (n : Byte)
  /-- ADD SP,e8 (E8, R354) -/
  | add_sp_e8 (e : Byte)
  /-- LD (a16),A (EA, R211) -/
  | ld_atA16_a (a : Word)
  /-- XOR n8 (EE, R320) -/
  | xor_n8 (n : Byte)
  /-- LDH A,(a8) (F0, R212) -/
  | ldh_a_atA8 (a : Byte)
  /-- OR n8 (F6, R323) -/
  | or_n8 (n : Byte)
  /-- LD HL,SP+e8 (F8, R254) -/
  | ld_hl_spE8 (e : Byte)
  /-- LD A,(a16) (FA, R210) -/
  | ld_a_atA16 (a : Word)
  /-- CP n8 (FE, R326) -/
  | cp_n8 (n : Byte)
  /-- NOP (00, R500) -/
  | nop
  /-- LD (BC),A (02, R208) -/
  | ld_atBC_a
  /-- INC BC (03, R352) -/
  | inc_bc
  /-- INC B (04, R327) -/
  | inc_b
  /-- DEC B (05, R329) -/
  | dec_b
  /-- RLCA (07, R401) -/
  | rlca
  /-- ADD HL,BC (09, R351) -/
  | add_hl_bc
  /-- LD A,(BC) (0A, R206) -/
  | ld_a_atBC
  /-- DEC BC (0B, R353) -/
  | dec_bc
  /-- INC C (0C, R327) -/
  | inc_c
  /-- DEC C (0D, R329) -/
  | dec_c
  /-- RRCA (0F, R402) -/
  | rrca
  /-- STOP (10, R502) -/
  | stop
  /-- LD (DE),A (12, R209) -/
  | ld_atDE_a
  /-- INC DE (13, R352) -/
  | inc_de
  /-- INC D (14, R327) -/
  | inc_d
  /-- DEC D (15, R329) -/
  | dec_d
  /-- RLA (17, R403) -/
  | rla
  /-- ADD HL,DE (19, R351) -/
  | add_hl_de
  /-- LD A,(DE) (1A, R207) -/
  | ld_a_atDE
  /-- DEC DE (1B, R353) -/
  | dec_de
  /-- INC E (1C, R327) -/
  | inc_e
  /-- DEC E (1D, R329) -/
  | dec_e
  /-- RRA (1F, R404) -/
  | rra
  /-- LD (HL+),A (22, R216) -/
  | ld_atHLI_a
  /-- INC HL (23, R352) -/
  | inc_hl
  /-- INC H (24, R327) -/
  | inc_h
  /-- DEC H (25, R329) -/
  | dec_h
  /-- DAA (27, R331) -/
  | daa
  /-- ADD HL,HL (29, R351) -/
  | add_hl_hl
  /-- LD A,(HL+) (2A, R217) -/
  | ld_a_atHLI
  /-- DEC HL (2B, R353) -/
  | dec_hl
  /-- INC L (2C, R327) -/
  | inc_l
  /-- DEC L (2D, R329) -/
  | dec_l
  /-- CPL (2F, R332) -/
  | cpl
  /-- LD (HL-),A (32, R218) -/
  | ld_atHLD_a
  /-- INC SP (33, R352) -/
  | inc_sp
  /-- INC (HL) (34, R328) -/
  | inc_atHL
  /-- DEC (HL) (35, R330) -/
  | dec_atHL
  /-- SCF (37, R333) -/
  | scf
  /-- ADD HL,SP (39, R351) -/
  | add_hl_sp
  /-- LD A,(HL-) (3A, R219) -/
  | ld_a_atHLD
  /-- DEC SP (3B, R353) -/
  | dec_sp
  /-- INC A (3C, R327) -/
  | inc_a
  /-- DEC A (3D, R329) -/
  | dec_a
  /-- CCF (3F, R334) -/
  | ccf
  /-- LD B,B (40, R201) -/
  | ld_b_b
  /-- LD B,C (41, R201) -/
  | ld_b_c
  /-- LD B,D (42, R201) -/
  | ld_b_d
  /-- LD B,E (43, R201) -/
  | ld_b_e
  /-- LD B,H (44, R201) -/
  | ld_b_h
  /-- LD B,L (45, R201) -/
  | ld_b_l
  /-- LD B,(HL) (46, R203) -/
  | ld_b_atHL
  /-- LD B,A (47, R201) -/
  | ld_b_a
  /-- LD C,B (48, R201) -/
  | ld_c_b
  /-- LD C,C (49, R201) -/
  | ld_c_c
  /-- LD C,D (4A, R201) -/
  | ld_c_d
  /-- LD C,E (4B, R201) -/
  | ld_c_e
  /-- LD C,H (4C, R201) -/
  | ld_c_h
  /-- LD C,L (4D, R201) -/
  | ld_c_l
  /-- LD C,(HL) (4E, R203) -/
  | ld_c_atHL
  /-- LD C,A (4F, R201) -/
  | ld_c_a
  /-- LD D,B (50, R201) -/
  | ld_d_b
  /-- LD D,C (51, R201) -/
  | ld_d_c
  /-- LD D,D (52, R201) -/
  | ld_d_d
  /-- LD D,E (53, R201) -/
  | ld_d_e
  /-- LD D,H (54, R201) -/
  | ld_d_h
  /-- LD D,L (55, R201) -/
  | ld_d_l
  /-- LD D,(HL) (56, R203) -/
  | ld_d_atHL
  /-- LD D,A (57, R201) -/
  | ld_d_a
  /-- LD E,B (58, R201) -/
  | ld_e_b
  /-- LD E,C (59, R201) -/
  | ld_e_c
  /-- LD E,D (5A, R201) -/
  | ld_e_d
  /-- LD E,E (5B, R201) -/
  | ld_e_e
  /-- LD E,H (5C, R201) -/
  | ld_e_h
  /-- LD E,L (5D, R201) -/
  | ld_e_l
  /-- LD E,(HL) (5E, R203) -/
  | ld_e_atHL
  /-- LD E,A (5F, R201) -/
  | ld_e_a
  /-- LD H,B (60, R201) -/
  | ld_h_b
  /-- LD H,C (61, R201) -/
  | ld_h_c
  /-- LD H,D (62, R201) -/
  | ld_h_d
  /-- LD H,E (63, R201) -/
  | ld_h_e
  /-- LD H,H (64, R201) -/
  | ld_h_h
  /-- LD H,L (65, R201) -/
  | ld_h_l
  /-- LD H,(HL) (66, R203) -/
  | ld_h_atHL
  /-- LD H,A (67, R201) -/
  | ld_h_a
  /-- LD L,B (68, R201) -/
  | ld_l_b
  /-- LD L,C (69, R201) -/
  | ld_l_c
  /-- LD L,D (6A, R201) -/
  | ld_l_d
  /-- LD L,E (6B, R201) -/
  | ld_l_e
  /-- LD L,H (6C, R201) -/
  | ld_l_h
  /-- LD L,L (6D, R201) -/
  | ld_l_l
  /-- LD L,(HL) (6E, R203) -/
  | ld_l_atHL
  /-- LD L,A (6F, R201) -/
  | ld_l_a
  /-- LD (HL),B (70, R204) -/
  | ld_atHL_b
  /-- LD (HL),C (71, R204) -/
  | ld_atHL_c
  /-- LD (HL),D (72, R204) -/
  | ld_atHL_d
  /-- LD (HL),E (73, R204) -/
  | ld_atHL_e
  /-- LD (HL),H (74, R204) -/
  | ld_atHL_h
  /-- LD (HL),L (75, R204) -/
  | ld_atHL_l
  /-- HALT (76, R501) -/
  | halt
  /-- LD (HL),A (77, R204) -/
  | ld_atHL_a
  /-- LD A,B (78, R201) -/
  | ld_a_b
  /-- LD A,C (79, R201) -/
  | ld_a_c
  /-- LD A,D (7A, R201) -/
  | ld_a_d
  /-- LD A,E (7B, R201) -/
  | ld_a_e
  /-- LD A,H (7C, R201) -/
  | ld_a_h
  /-- LD A,L (7D, R201) -/
  | ld_a_l
  /-- LD A,(HL) (7E, R203) -/
  | ld_a_atHL
  /-- LD A,A (7F, R201) -/
  | ld_a_a
  /-- ADD A,B (80, R303) -/
  | add_a_b
  /-- ADD A,C (81, R303) -/
  | add_a_c
  /-- ADD A,D (82, R303) -/
  | add_a_d
  /-- ADD A,E (83, R303) -/
  | add_a_e
  /-- ADD A,H (84, R303) -/
  | add_a_h
  /-- ADD A,L (85, R303) -/
  | add_a_l
  /-- ADD A,(HL) (86, R304) -/
  | add_a_atHL
  /-- ADD A,A (87, R303) -/
  | add_a_a
  /-- ADC A,B (88, R306) -/
  | adc_a_b
  /-- ADC A,C (89, R306) -/
  | adc_a_c
  /-- ADC A,D (8A, R306) -/
  | adc_a_d
  /-- ADC A,E (8B, R306) -/
  | adc_a_e
  /-- ADC A,H (8C, R306) -/
  | adc_a_h
  /-- ADC A,L (8D, R306) -/
  | adc_a_l
  /-- ADC A,(HL) (8E, R307) -/
  | adc_a_atHL
  /-- ADC A,A (8F, R306) -/
  | adc_a_a
  /-- SUB B (90, R309) -/
  | sub_b
  /-- SUB C (91, R309) -/
  | sub_c
  /-- SUB D (92, R309) -/
  | sub_d
  /-- SUB E (93, R309) -/
  | sub_e
  /-- SUB H (94, R309) -/
  | sub_h
  /-- SUB L (95, R309) -/
  | sub_l
  /-- SUB (HL) (96, R310) -/
  | sub_atHL
  /-- SUB A (97, R309) -/
  | sub_a
  /-- SBC A,B (98, R312) -/
  | sbc_a_b
  /-- SBC A,C (99, R312) -/
  | sbc_a_c
  /-- SBC A,D (9A, R312) -/
  | sbc_a_d
  /-- SBC A,E (9B, R312) -/
  | sbc_a_e
  /-- SBC A,H (9C, R312) -/
  | sbc_a_h
  /-- SBC A,L (9D, R312) -/
  | sbc_a_l
  /-- SBC A,(HL) (9E, R313) -/
  | sbc_a_atHL
  /-- SBC A,A (9F, R312) -/
  | sbc_a_a
  /-- AND B (A0, R315) -/
  | and_b
  /-- AND C (A1, R315) -/
  | and_c
  /-- AND D (A2, R315) -/
  | and_d
  /-- AND E (A3, R315) -/
  | and_e
  /-- AND H (A4, R315) -/
  | and_h
  /-- AND L (A5, R315) -/
  | and_l
  /-- AND (HL) (A6, R316) -/
  | and_atHL
  /-- AND A (A7, R315) -/
  | and_a
  /-- XOR B (A8, R318) -/
  | xor_b
  /-- XOR C (A9, R318) -/
  | xor_c
  /-- XOR D (AA, R318) -/
  | xor_d
  /-- XOR E (AB, R318) -/
  | xor_e
  /-- XOR H (AC, R318) -/
  | xor_h
  /-- XOR L (AD, R318) -/
  | xor_l
  /-- XOR (HL) (AE, R319) -/
  | xor_atHL
  /-- XOR A (AF, R318) -/
  | xor_a
  /-- OR B (B0, R321) -/
  | or_b
  /-- OR C (B1, R321) -/
  | or_c
  /-- OR D (B2, R321) -/
  | or_d
  /-- OR E (B3, R321) -/
  | or_e
  /-- OR H (B4, R321) -/
  | or_h
  /-- OR L (B5, R321) -/
  | or_l
  /-- OR (HL) (B6, R322) -/
  | or_atHL
  /-- OR A (B7, R321) -/
  | or_a
  /-- CP B (B8, R324) -/
  | cp_b
  /-- CP C (B9, R324) -/
  | cp_c
  /-- CP D (BA, R324) -/
  | cp_d
  /-- CP E (BB, R324) -/
  | cp_e
  /-- CP H (BC, R324) -/
  | cp_h
  /-- CP L (BD, R324) -/
  | cp_l
  /-- CP (HL) (BE, R325) -/
  | cp_atHL
  /-- CP A (BF, R324) -/
  | cp_a
  /-- RET NZ (C0, R459) -/
  | ret_nz
  /-- POP BC (C1, R256) -/
  | pop_bc
  /-- PUSH BC (C5, R255) -/
  | push_bc
  /-- RST 0x00 (C7, R461) -/
  | rst_00
  /-- RET Z (C8, R459) -/
  | ret_z
  /-- RET (C9, R458) -/
  | ret
  /-- RST 0x08 (CF, R461) -/
  | rst_08
  /-- RET NC (D0, R459) -/
  | ret_nc
  /-- POP DE (D1, R256) -/
  | pop_de
  /-- ILLEGAL_D3 (D3, R505) -/
  | illegal_d3
  /-- PUSH DE (D5, R255) -/
  | push_de
  /-- RST 0x10 (D7, R461) -/
  | rst_10
  /-- RET C (D8, R459) -/
  | ret_c
  /-- RETI (D9, R460) -/
  | reti
  /-- ILLEGAL_DB (DB, R505) -/
  | illegal_db
  /-- ILLEGAL_DD (DD, R505) -/
  | illegal_dd
  /-- RST 0x18 (DF, R461) -/
  | rst_18
  /-- POP HL (E1, R256) -/
  | pop_hl
  /-- LD (C),A (E2, R215) -/
  | ld_atC_a
  /-- ILLEGAL_E3 (E3, R505) -/
  | illegal_e3
  /-- ILLEGAL_E4 (E4, R505) -/
  | illegal_e4
  /-- PUSH HL (E5, R255) -/
  | push_hl
  /-- RST 0x20 (E7, R461) -/
  | rst_20
  /-- JP HL (E9, R453) -/
  | jp_hl
  /-- ILLEGAL_EB (EB, R505) -/
  | illegal_eb
  /-- ILLEGAL_EC (EC, R505) -/
  | illegal_ec
  /-- ILLEGAL_ED (ED, R505) -/
  | illegal_ed
  /-- RST 0x28 (EF, R461) -/
  | rst_28
  /-- POP AF (F1, R257) -/
  | pop_af
  /-- LD A,(C) (F2, R214) -/
  | ld_a_atC
  /-- DI (F3, R503) -/
  | di
  /-- ILLEGAL_F4 (F4, R505) -/
  | illegal_f4
  /-- PUSH AF (F5, R255) -/
  | push_af
  /-- RST 0x30 (F7, R461) -/
  | rst_30
  /-- LD SP,HL (F9, R253) -/
  | ld_sp_hl
  /-- EI (FB, R504) -/
  | ei
  /-- ILLEGAL_FC (FC, R505) -/
  | illegal_fc
  /-- ILLEGAL_FD (FD, R505) -/
  | illegal_fd
  /-- RST 0x38 (FF, R461) -/
  | rst_38
  /-- RLC B (CB 00, R405) -/
  | rlc_b
  /-- RLC C (CB 01, R405) -/
  | rlc_c
  /-- RLC D (CB 02, R405) -/
  | rlc_d
  /-- RLC E (CB 03, R405) -/
  | rlc_e
  /-- RLC H (CB 04, R405) -/
  | rlc_h
  /-- RLC L (CB 05, R405) -/
  | rlc_l
  /-- RLC (HL) (CB 06, R406) -/
  | rlc_atHL
  /-- RLC A (CB 07, R405) -/
  | rlc_a
  /-- RRC B (CB 08, R407) -/
  | rrc_b
  /-- RRC C (CB 09, R407) -/
  | rrc_c
  /-- RRC D (CB 0A, R407) -/
  | rrc_d
  /-- RRC E (CB 0B, R407) -/
  | rrc_e
  /-- RRC H (CB 0C, R407) -/
  | rrc_h
  /-- RRC L (CB 0D, R407) -/
  | rrc_l
  /-- RRC (HL) (CB 0E, R408) -/
  | rrc_atHL
  /-- RRC A (CB 0F, R407) -/
  | rrc_a
  /-- RL B (CB 10, R409) -/
  | rl_b
  /-- RL C (CB 11, R409) -/
  | rl_c
  /-- RL D (CB 12, R409) -/
  | rl_d
  /-- RL E (CB 13, R409) -/
  | rl_e
  /-- RL H (CB 14, R409) -/
  | rl_h
  /-- RL L (CB 15, R409) -/
  | rl_l
  /-- RL (HL) (CB 16, R410) -/
  | rl_atHL
  /-- RL A (CB 17, R409) -/
  | rl_a
  /-- RR B (CB 18, R411) -/
  | rr_b
  /-- RR C (CB 19, R411) -/
  | rr_c
  /-- RR D (CB 1A, R411) -/
  | rr_d
  /-- RR E (CB 1B, R411) -/
  | rr_e
  /-- RR H (CB 1C, R411) -/
  | rr_h
  /-- RR L (CB 1D, R411) -/
  | rr_l
  /-- RR (HL) (CB 1E, R412) -/
  | rr_atHL
  /-- RR A (CB 1F, R411) -/
  | rr_a
  /-- SLA B (CB 20, R413) -/
  | sla_b
  /-- SLA C (CB 21, R413) -/
  | sla_c
  /-- SLA D (CB 22, R413) -/
  | sla_d
  /-- SLA E (CB 23, R413) -/
  | sla_e
  /-- SLA H (CB 24, R413) -/
  | sla_h
  /-- SLA L (CB 25, R413) -/
  | sla_l
  /-- SLA (HL) (CB 26, R414) -/
  | sla_atHL
  /-- SLA A (CB 27, R413) -/
  | sla_a
  /-- SRA B (CB 28, R415) -/
  | sra_b
  /-- SRA C (CB 29, R415) -/
  | sra_c
  /-- SRA D (CB 2A, R415) -/
  | sra_d
  /-- SRA E (CB 2B, R415) -/
  | sra_e
  /-- SRA H (CB 2C, R415) -/
  | sra_h
  /-- SRA L (CB 2D, R415) -/
  | sra_l
  /-- SRA (HL) (CB 2E, R416) -/
  | sra_atHL
  /-- SRA A (CB 2F, R415) -/
  | sra_a
  /-- SWAP B (CB 30, R417) -/
  | swap_b
  /-- SWAP C (CB 31, R417) -/
  | swap_c
  /-- SWAP D (CB 32, R417) -/
  | swap_d
  /-- SWAP E (CB 33, R417) -/
  | swap_e
  /-- SWAP H (CB 34, R417) -/
  | swap_h
  /-- SWAP L (CB 35, R417) -/
  | swap_l
  /-- SWAP (HL) (CB 36, R418) -/
  | swap_atHL
  /-- SWAP A (CB 37, R417) -/
  | swap_a
  /-- SRL B (CB 38, R419) -/
  | srl_b
  /-- SRL C (CB 39, R419) -/
  | srl_c
  /-- SRL D (CB 3A, R419) -/
  | srl_d
  /-- SRL E (CB 3B, R419) -/
  | srl_e
  /-- SRL H (CB 3C, R419) -/
  | srl_h
  /-- SRL L (CB 3D, R419) -/
  | srl_l
  /-- SRL (HL) (CB 3E, R420) -/
  | srl_atHL
  /-- SRL A (CB 3F, R419) -/
  | srl_a
  /-- BIT 0,B (CB 40, R421) -/
  | bit_0_b
  /-- BIT 0,C (CB 41, R421) -/
  | bit_0_c
  /-- BIT 0,D (CB 42, R421) -/
  | bit_0_d
  /-- BIT 0,E (CB 43, R421) -/
  | bit_0_e
  /-- BIT 0,H (CB 44, R421) -/
  | bit_0_h
  /-- BIT 0,L (CB 45, R421) -/
  | bit_0_l
  /-- BIT 0,(HL) (CB 46, R422) -/
  | bit_0_atHL
  /-- BIT 0,A (CB 47, R421) -/
  | bit_0_a
  /-- BIT 1,B (CB 48, R421) -/
  | bit_1_b
  /-- BIT 1,C (CB 49, R421) -/
  | bit_1_c
  /-- BIT 1,D (CB 4A, R421) -/
  | bit_1_d
  /-- BIT 1,E (CB 4B, R421) -/
  | bit_1_e
  /-- BIT 1,H (CB 4C, R421) -/
  | bit_1_h
  /-- BIT 1,L (CB 4D, R421) -/
  | bit_1_l
  /-- BIT 1,(HL) (CB 4E, R422) -/
  | bit_1_atHL
  /-- BIT 1,A (CB 4F, R421) -/
  | bit_1_a
  /-- BIT 2,B (CB 50, R421) -/
  | bit_2_b
  /-- BIT 2,C (CB 51, R421) -/
  | bit_2_c
  /-- BIT 2,D (CB 52, R421) -/
  | bit_2_d
  /-- BIT 2,E (CB 53, R421) -/
  | bit_2_e
  /-- BIT 2,H (CB 54, R421) -/
  | bit_2_h
  /-- BIT 2,L (CB 55, R421) -/
  | bit_2_l
  /-- BIT 2,(HL) (CB 56, R422) -/
  | bit_2_atHL
  /-- BIT 2,A (CB 57, R421) -/
  | bit_2_a
  /-- BIT 3,B (CB 58, R421) -/
  | bit_3_b
  /-- BIT 3,C (CB 59, R421) -/
  | bit_3_c
  /-- BIT 3,D (CB 5A, R421) -/
  | bit_3_d
  /-- BIT 3,E (CB 5B, R421) -/
  | bit_3_e
  /-- BIT 3,H (CB 5C, R421) -/
  | bit_3_h
  /-- BIT 3,L (CB 5D, R421) -/
  | bit_3_l
  /-- BIT 3,(HL) (CB 5E, R422) -/
  | bit_3_atHL
  /-- BIT 3,A (CB 5F, R421) -/
  | bit_3_a
  /-- BIT 4,B (CB 60, R421) -/
  | bit_4_b
  /-- BIT 4,C (CB 61, R421) -/
  | bit_4_c
  /-- BIT 4,D (CB 62, R421) -/
  | bit_4_d
  /-- BIT 4,E (CB 63, R421) -/
  | bit_4_e
  /-- BIT 4,H (CB 64, R421) -/
  | bit_4_h
  /-- BIT 4,L (CB 65, R421) -/
  | bit_4_l
  /-- BIT 4,(HL) (CB 66, R422) -/
  | bit_4_atHL
  /-- BIT 4,A (CB 67, R421) -/
  | bit_4_a
  /-- BIT 5,B (CB 68, R421) -/
  | bit_5_b
  /-- BIT 5,C (CB 69, R421) -/
  | bit_5_c
  /-- BIT 5,D (CB 6A, R421) -/
  | bit_5_d
  /-- BIT 5,E (CB 6B, R421) -/
  | bit_5_e
  /-- BIT 5,H (CB 6C, R421) -/
  | bit_5_h
  /-- BIT 5,L (CB 6D, R421) -/
  | bit_5_l
  /-- BIT 5,(HL) (CB 6E, R422) -/
  | bit_5_atHL
  /-- BIT 5,A (CB 6F, R421) -/
  | bit_5_a
  /-- BIT 6,B (CB 70, R421) -/
  | bit_6_b
  /-- BIT 6,C (CB 71, R421) -/
  | bit_6_c
  /-- BIT 6,D (CB 72, R421) -/
  | bit_6_d
  /-- BIT 6,E (CB 73, R421) -/
  | bit_6_e
  /-- BIT 6,H (CB 74, R421) -/
  | bit_6_h
  /-- BIT 6,L (CB 75, R421) -/
  | bit_6_l
  /-- BIT 6,(HL) (CB 76, R422) -/
  | bit_6_atHL
  /-- BIT 6,A (CB 77, R421) -/
  | bit_6_a
  /-- BIT 7,B (CB 78, R421) -/
  | bit_7_b
  /-- BIT 7,C (CB 79, R421) -/
  | bit_7_c
  /-- BIT 7,D (CB 7A, R421) -/
  | bit_7_d
  /-- BIT 7,E (CB 7B, R421) -/
  | bit_7_e
  /-- BIT 7,H (CB 7C, R421) -/
  | bit_7_h
  /-- BIT 7,L (CB 7D, R421) -/
  | bit_7_l
  /-- BIT 7,(HL) (CB 7E, R422) -/
  | bit_7_atHL
  /-- BIT 7,A (CB 7F, R421) -/
  | bit_7_a
  /-- RES 0,B (CB 80, R423) -/
  | res_0_b
  /-- RES 0,C (CB 81, R423) -/
  | res_0_c
  /-- RES 0,D (CB 82, R423) -/
  | res_0_d
  /-- RES 0,E (CB 83, R423) -/
  | res_0_e
  /-- RES 0,H (CB 84, R423) -/
  | res_0_h
  /-- RES 0,L (CB 85, R423) -/
  | res_0_l
  /-- RES 0,(HL) (CB 86, R424) -/
  | res_0_atHL
  /-- RES 0,A (CB 87, R423) -/
  | res_0_a
  /-- RES 1,B (CB 88, R423) -/
  | res_1_b
  /-- RES 1,C (CB 89, R423) -/
  | res_1_c
  /-- RES 1,D (CB 8A, R423) -/
  | res_1_d
  /-- RES 1,E (CB 8B, R423) -/
  | res_1_e
  /-- RES 1,H (CB 8C, R423) -/
  | res_1_h
  /-- RES 1,L (CB 8D, R423) -/
  | res_1_l
  /-- RES 1,(HL) (CB 8E, R424) -/
  | res_1_atHL
  /-- RES 1,A (CB 8F, R423) -/
  | res_1_a
  /-- RES 2,B (CB 90, R423) -/
  | res_2_b
  /-- RES 2,C (CB 91, R423) -/
  | res_2_c
  /-- RES 2,D (CB 92, R423) -/
  | res_2_d
  /-- RES 2,E (CB 93, R423) -/
  | res_2_e
  /-- RES 2,H (CB 94, R423) -/
  | res_2_h
  /-- RES 2,L (CB 95, R423) -/
  | res_2_l
  /-- RES 2,(HL) (CB 96, R424) -/
  | res_2_atHL
  /-- RES 2,A (CB 97, R423) -/
  | res_2_a
  /-- RES 3,B (CB 98, R423) -/
  | res_3_b
  /-- RES 3,C (CB 99, R423) -/
  | res_3_c
  /-- RES 3,D (CB 9A, R423) -/
  | res_3_d
  /-- RES 3,E (CB 9B, R423) -/
  | res_3_e
  /-- RES 3,H (CB 9C, R423) -/
  | res_3_h
  /-- RES 3,L (CB 9D, R423) -/
  | res_3_l
  /-- RES 3,(HL) (CB 9E, R424) -/
  | res_3_atHL
  /-- RES 3,A (CB 9F, R423) -/
  | res_3_a
  /-- RES 4,B (CB A0, R423) -/
  | res_4_b
  /-- RES 4,C (CB A1, R423) -/
  | res_4_c
  /-- RES 4,D (CB A2, R423) -/
  | res_4_d
  /-- RES 4,E (CB A3, R423) -/
  | res_4_e
  /-- RES 4,H (CB A4, R423) -/
  | res_4_h
  /-- RES 4,L (CB A5, R423) -/
  | res_4_l
  /-- RES 4,(HL) (CB A6, R424) -/
  | res_4_atHL
  /-- RES 4,A (CB A7, R423) -/
  | res_4_a
  /-- RES 5,B (CB A8, R423) -/
  | res_5_b
  /-- RES 5,C (CB A9, R423) -/
  | res_5_c
  /-- RES 5,D (CB AA, R423) -/
  | res_5_d
  /-- RES 5,E (CB AB, R423) -/
  | res_5_e
  /-- RES 5,H (CB AC, R423) -/
  | res_5_h
  /-- RES 5,L (CB AD, R423) -/
  | res_5_l
  /-- RES 5,(HL) (CB AE, R424) -/
  | res_5_atHL
  /-- RES 5,A (CB AF, R423) -/
  | res_5_a
  /-- RES 6,B (CB B0, R423) -/
  | res_6_b
  /-- RES 6,C (CB B1, R423) -/
  | res_6_c
  /-- RES 6,D (CB B2, R423) -/
  | res_6_d
  /-- RES 6,E (CB B3, R423) -/
  | res_6_e
  /-- RES 6,H (CB B4, R423) -/
  | res_6_h
  /-- RES 6,L (CB B5, R423) -/
  | res_6_l
  /-- RES 6,(HL) (CB B6, R424) -/
  | res_6_atHL
  /-- RES 6,A (CB B7, R423) -/
  | res_6_a
  /-- RES 7,B (CB B8, R423) -/
  | res_7_b
  /-- RES 7,C (CB B9, R423) -/
  | res_7_c
  /-- RES 7,D (CB BA, R423) -/
  | res_7_d
  /-- RES 7,E (CB BB, R423) -/
  | res_7_e
  /-- RES 7,H (CB BC, R423) -/
  | res_7_h
  /-- RES 7,L (CB BD, R423) -/
  | res_7_l
  /-- RES 7,(HL) (CB BE, R424) -/
  | res_7_atHL
  /-- RES 7,A (CB BF, R423) -/
  | res_7_a
  /-- SET 0,B (CB C0, R425) -/
  | set_0_b
  /-- SET 0,C (CB C1, R425) -/
  | set_0_c
  /-- SET 0,D (CB C2, R425) -/
  | set_0_d
  /-- SET 0,E (CB C3, R425) -/
  | set_0_e
  /-- SET 0,H (CB C4, R425) -/
  | set_0_h
  /-- SET 0,L (CB C5, R425) -/
  | set_0_l
  /-- SET 0,(HL) (CB C6, R426) -/
  | set_0_atHL
  /-- SET 0,A (CB C7, R425) -/
  | set_0_a
  /-- SET 1,B (CB C8, R425) -/
  | set_1_b
  /-- SET 1,C (CB C9, R425) -/
  | set_1_c
  /-- SET 1,D (CB CA, R425) -/
  | set_1_d
  /-- SET 1,E (CB CB, R425) -/
  | set_1_e
  /-- SET 1,H (CB CC, R425) -/
  | set_1_h
  /-- SET 1,L (CB CD, R425) -/
  | set_1_l
  /-- SET 1,(HL) (CB CE, R426) -/
  | set_1_atHL
  /-- SET 1,A (CB CF, R425) -/
  | set_1_a
  /-- SET 2,B (CB D0, R425) -/
  | set_2_b
  /-- SET 2,C (CB D1, R425) -/
  | set_2_c
  /-- SET 2,D (CB D2, R425) -/
  | set_2_d
  /-- SET 2,E (CB D3, R425) -/
  | set_2_e
  /-- SET 2,H (CB D4, R425) -/
  | set_2_h
  /-- SET 2,L (CB D5, R425) -/
  | set_2_l
  /-- SET 2,(HL) (CB D6, R426) -/
  | set_2_atHL
  /-- SET 2,A (CB D7, R425) -/
  | set_2_a
  /-- SET 3,B (CB D8, R425) -/
  | set_3_b
  /-- SET 3,C (CB D9, R425) -/
  | set_3_c
  /-- SET 3,D (CB DA, R425) -/
  | set_3_d
  /-- SET 3,E (CB DB, R425) -/
  | set_3_e
  /-- SET 3,H (CB DC, R425) -/
  | set_3_h
  /-- SET 3,L (CB DD, R425) -/
  | set_3_l
  /-- SET 3,(HL) (CB DE, R426) -/
  | set_3_atHL
  /-- SET 3,A (CB DF, R425) -/
  | set_3_a
  /-- SET 4,B (CB E0, R425) -/
  | set_4_b
  /-- SET 4,C (CB E1, R425) -/
  | set_4_c
  /-- SET 4,D (CB E2, R425) -/
  | set_4_d
  /-- SET 4,E (CB E3, R425) -/
  | set_4_e
  /-- SET 4,H (CB E4, R425) -/
  | set_4_h
  /-- SET 4,L (CB E5, R425) -/
  | set_4_l
  /-- SET 4,(HL) (CB E6, R426) -/
  | set_4_atHL
  /-- SET 4,A (CB E7, R425) -/
  | set_4_a
  /-- SET 5,B (CB E8, R425) -/
  | set_5_b
  /-- SET 5,C (CB E9, R425) -/
  | set_5_c
  /-- SET 5,D (CB EA, R425) -/
  | set_5_d
  /-- SET 5,E (CB EB, R425) -/
  | set_5_e
  /-- SET 5,H (CB EC, R425) -/
  | set_5_h
  /-- SET 5,L (CB ED, R425) -/
  | set_5_l
  /-- SET 5,(HL) (CB EE, R426) -/
  | set_5_atHL
  /-- SET 5,A (CB EF, R425) -/
  | set_5_a
  /-- SET 6,B (CB F0, R425) -/
  | set_6_b
  /-- SET 6,C (CB F1, R425) -/
  | set_6_c
  /-- SET 6,D (CB F2, R425) -/
  | set_6_d
  /-- SET 6,E (CB F3, R425) -/
  | set_6_e
  /-- SET 6,H (CB F4, R425) -/
  | set_6_h
  /-- SET 6,L (CB F5, R425) -/
  | set_6_l
  /-- SET 6,(HL) (CB F6, R426) -/
  | set_6_atHL
  /-- SET 6,A (CB F7, R425) -/
  | set_6_a
  /-- SET 7,B (CB F8, R425) -/
  | set_7_b
  /-- SET 7,C (CB F9, R425) -/
  | set_7_c
  /-- SET 7,D (CB FA, R425) -/
  | set_7_d
  /-- SET 7,E (CB FB, R425) -/
  | set_7_e
  /-- SET 7,H (CB FC, R425) -/
  | set_7_h
  /-- SET 7,L (CB FD, R425) -/
  | set_7_l
  /-- SET 7,(HL) (CB FE, R426) -/
  | set_7_atHL
  /-- SET 7,A (CB FF, R425) -/
  | set_7_a
  deriving DecidableEq, Repr

end Sys2Proof
end

