-- ==== Sys2Proof/WellFormed.lean ====
section
/-! DEFINITION. Well-formedness. Every operand range of the encoding is in the type of the operand (a byte, a word), so the
one check left is that the row is an instruction at all: R166 says that the eleven unassigned bytes "are not instructions".
They are rows of the table, so they have constructors, decode by name, and raise their fault (R505). -/

namespace Sys2Proof

/-- The term is an instruction of the maps of R164 and R165. -/
def Instr.wellFormed (i : Instr) : Bool :=
  match i with
  | .illegal_d3 => false
  | .illegal_db => false
  | .illegal_dd => false
  | .illegal_e3 => false
  | .illegal_e4 => false
  | .illegal_eb => false
  | .illegal_ec => false
  | .illegal_ed => false
  | .illegal_f4 => false
  | .illegal_fc => false
  | .illegal_fd => false
  | _ => true

end Sys2Proof
end

