-- ==== Sys2Proof/Config.lean ====
section
/-! DEFINITION. The named parameters of R10, as one record of plain data. The State carries a Config, so a claim over all
states is a claim over every value of the parameters (R11; log entry 1). `INITIAL_MEMORY` is the State's own memory (log
entry 4), and `BOOT_IMAGE` is the argument of the reset operation (Machine/Block.lean). What a memory bus other than FlatRAM
does is the platform's, so its two functions stand here without a body (log entry 2). -/

namespace Sys2Proof

/-- `ACC_ROTATE_Z` (R10, R401): what RLCA, RRCA, RLA and RRA do to Z. -/
inductive AccRotateZ where
  | resultZero
  | alwaysClear
  deriving DecidableEq, Repr

/-- One replaced row of the table `CycleCost` (R10, D2): the opcode (`0x00` to `0xFF`, or `0xCB00 + cb`), its cost, and its
cost when a conditional transfer is not taken. -/
structure CostRow where
  opcode : Nat
  cycles : Nat
  cyclesNotTaken : Nat
  deriving DecidableEq, Repr

/-- `MemoryBus` (R10, R110): the default `FlatRAM`, or the bus of some platform. `k` tells one platform from another; what
platform `k` does is `MemoryBus.platformRead` and `MemoryBus.platformWrite`. -/
inductive MemoryBus where
  | flatRAM
  | platform (k : Nat)
  deriving DecidableEq, Repr

/-- `read(addr)` of the bus of platform `k`, whose contents are coded as a number. No body: nothing is known of it, so what is
proved of it holds of every platform (R101, R110; log entry 2). It answers no new contents: a bus whose reads have side effects
is refused by the spec (93_implementation_defined.md row 11). -/
opaque MemoryBus.platformRead (k contents : Nat) (a : Word) : Byte

/-- `write(addr, value)` of the bus of platform `k`: its contents afterwards. No body, as above. -/
opaque MemoryBus.platformWrite (k contents : Nat) (a : Word) (v : Byte) : Nat

/-- The parameters of R10. -/
structure Config where
  /-- `SYSTEM_CLOCK_RATE` -/
  systemClockRate : Nat
  /-- `DIV_PERIOD` -/
  divPeriod : Nat
  /-- `TIMA_FREQ[0]` -/
  timaFreq0 : Nat
  /-- `TIMA_FREQ[1]` -/
  timaFreq1 : Nat
  /-- `TIMA_FREQ[2]` -/
  timaFreq2 : Nat
  /-- `TIMA_FREQ[3]` -/
  timaFreq3 : Nat
  /-- `TAC_ENABLE_GATES` -/
  tacEnableGates : Bool
  /-- `JR_CC_NOT_TAKEN_CYCLES` -/
  jrCcNotTakenCycles : Nat
  /-- `ACC_ROTATE_Z` -/
  accRotateZ : AccRotateZ
  /-- `EI_DELAY` -/
  eiDelay : Bool
  /-- `HALT_BUG` -/
  haltBug : Bool
  /-- `HALT_IDLE_CYCLES` -/
  haltIdleCycles : Nat
  /-- `INT_DISPATCH_CYCLES` -/
  intDispatchCycles : Nat
  /-- `BOOT_LEN` -/
  bootLen : Nat
  /-- `MemoryBus` -/
  memoryBus : MemoryBus
  /-- `CycleCost`: the rows that replace the costs the instruction rules state; none by default. -/
  cycleCost : List CostRow
  deriving DecidableEq, Repr

/-- The default column of R10. -/
def Config.default : Config where
  systemClockRate := 4194304
  divPeriod := 256
  timaFreq0 := 4096
  timaFreq1 := 262144
  timaFreq2 := 65536
  timaFreq3 := 16384
  tacEnableGates := true
  jrCcNotTakenCycles := 3
  accRotateZ := .resultZero
  eiDelay := false
  haltBug := true
  haltIdleCycles := 1
  intDispatchCycles := 0
  bootLen := 256
  memoryBus := .flatRAM
  cycleCost := []

/-- The types R10 gives the parameters: the ones it calls positive are positive. -/
def Config.wf (c : Config) : Bool :=
  decide (0 < c.systemClockRate) && decide (0 < c.divPeriod) &&
  decide (0 < c.timaFreq0) && decide (0 < c.timaFreq1) && decide (0 < c.timaFreq2) && decide (0 < c.timaFreq3) &&
  decide (0 < c.haltIdleCycles) && decide (0 < c.bootLen)

end Sys2Proof
end

