-- ==== Sys2Proof/Machine/State.lean ====
section
/-! DEFINITION. The state of the block: every element of R73, as plain data, with the parameters of R10 beside it.
DIV, TIMA, TMA, TAC, IF and IE are bytes behind the memory contract, "not owned copies" (R66 to R71): they have accessors in
Machine/Ops.lean and no field of their own. -/

namespace Sys2Proof.Machine

/-- The reportable faults of a step (R600). The third fault of the spec, BootLoadFailure, is raised by reset only (R703): it
is `ResetReturn.bootLoadFailure` of Machine/Block.lean. -/
inductive Fault where
  /-- Raised by the eleven unassigned opcodes (R505, R603), with the opcode byte and the address it was fetched from. Safe:
  the spec gives exactly this stop. -/
  | illegalOpcode (op : Byte) (addr : Word)
  /-- Raised by STOP, 0x10 (R502, R604), with the opcode byte and its address. Safe: the spec gives exactly this stop. -/
  | unsupported (op : Byte) (addr : Word)
  deriving DecidableEq, Repr

/-- Reasons for which the model itself would give no meaning. -/
inductive Refusal where
  /-- An instruction that has no meaning in the model yet, raised by an arm of `exec`; no arm raises it now. Safe: a refusal
  proves nothing about the instruction. -/
  | notModelled (mnemonic : String)
  deriving DecidableEq, Repr

/-- The flags, bits 7 to 4 of F (R54). Bits 3 to 0 of F are always 0 (R53) and so are not stored; `Flags.toByte` is F. -/
structure Flags where
  /-- Zero, bit 7 -/
  z : Bool
  /-- Subtract, bit 6 -/
  n : Bool
  /-- Half-carry, bit 5 -/
  h : Bool
  /-- Carry, bit 4 -/
  c : Bool
  deriving DecidableEq, Repr

/-- FlatRAM (R110) as a list of (address, byte) cells in one canonical form (`Memory.wf`, Machine/Ops.lean). -/
abbrev Memory := List Host.Cell

/-- What is behind the memory contract (R101): the bytes of FlatRAM, and the contents of a platform's bus. The bus that the
parameter `MemoryBus` names uses its own and leaves the other alone. -/
structure Store where
  /-- the 65536 bytes of FlatRAM (R110) -/
  ram : Memory
  /-- the contents of a platform's memory and devices, coded as a number; only the platform's bus knows how (log entry 2) -/
  platform : Nat
  deriving DecidableEq, Repr

/-- The state (R73). -/
structure State where
  /-- A, the high half of AF -/
  a : Byte
  /-- F, the low half of AF, as its four flags -/
  flags : Flags
  b : Byte
  c : Byte
  d : Byte
  e : Byte
  h : Byte
  l : Byte
  /-- SP (R56) -/
  sp : Word
  /-- PC (R57): between steps, the address of the next opcode -/
  pc : Word
  /-- IME (R58) -/
  ime : Bool
  /-- `halted` (R59) -/
  halted : Bool
  /-- `haltBug` (R60) -/
  haltBug : Bool
  /-- `eiPending` (R61) -/
  eiPending : Bool
  /-- `divCounter`, a signed integer (R62) -/
  divCounter : Int
  /-- `timaCounter`, a signed integer (R63) -/
  timaCounter : Int
  /-- `cycleCounter`, a natural number without wrap (R64) -/
  cycleCounter : Nat
  /-- `fault` (R65) -/
  fault : Option Fault
  /-- the memory behind the contract (R73, R100, R110) -/
  mem : Store
  /-- the parameters of R10: read by the step, written by nothing -/
  cfg : Config
  deriving DecidableEq, Repr

/-- The state right after a successful reset with the default parameters (R707). The boot image is the host's and unspecified
(R703, D42): here it is `BOOT_LEN` bytes of 0x00, so memory lists nothing (log entry 3). The bus is FlatRAM, so the platform's
contents are never read (log entry 2). -/
def State.reset : State where
  a := 0x01
  flags := { z := true, n := false, h := true, c := true }
  b := 0x00
  c := 0x13
  d := 0x00
  e := 0xD8
  h := 0x01
  l := 0x4D
  sp := 0xFFFE
  pc := 0x0000
  ime := false
  halted := false
  haltBug := false
  eiPending := false
  divCounter := 256
  timaCounter := 1024
  cycleCounter := 0
  fault := none
  mem := { ram := [], platform := 0 }
  cfg := Config.default

/-- What executing an instruction or a step answers. -/
abbrev Result := Host.Outcome State Fault Refusal

end Sys2Proof.Machine
end

