-- ==== Sys2Proof/Machine/Flags.lean ====
section
/-! DEFINITION. F as a byte (R53, R54), and every result and flag computation of 42, 43 and 44, as functions of the operands.
Sums and differences are taken on unbounded integers and narrowed at the end (R12, R301, R302). -/

namespace Sys2Proof.Machine

/-- F: Z, N, H, C in bits 7 to 4, and bits 3 to 0 always 0 (R53, R54). -/
def Flags.toByte (f : Flags) : Byte :=
  BitVec.ofBool f.z ++ BitVec.ofBool f.n ++ BitVec.ofBool f.h ++ BitVec.ofBool f.c ++ (0 : BitVec 4)

/-- A write of a whole byte to F stores `v & 0xF0` (R53). -/
def Flags.ofByte (v : Byte) : Flags where
  z := v.getLsbD 7
  n := v.getLsbD 6
  h := v.getLsbD 5
  c := v.getLsbD 4

/-- A result byte and the four flags it comes with. -/
structure Alu8 where
  res : Byte
  flags : Flags
  deriving DecidableEq, Repr

/-- A flag as the number 0 or 1, for the carry and borrow inputs (R301, R302). -/
def flagNat (f : Bool) : Nat := if f then 1 else 0

/-- `add8(a, b, c)` (R301). -/
def add8 (a b : Byte) (c : Nat) : Alu8 :=
  let s := a.toNat + b.toNat + c
  let res := BitVec.ofNat 8 s
  { res := res
    flags := { z := decide (res = 0), n := false
               h := decide (a.toNat % 16 + b.toNat % 16 + c > 0x0F), c := decide (s > 0xFF) } }

/-- `sub8(a, b, c)` (R302). -/
def sub8 (a b : Byte) (c : Nat) : Alu8 :=
  let d : Int := (a.toNat : Int) - b.toNat - c
  let res := BitVec.ofInt 8 d
  { res := res
    flags := { z := decide (res = 0), n := true
               h := decide (a.toNat % 16 < b.toNat % 16 + c), c := decide (d < 0) } }

/-- The flags of a logical operation: `flags(res == 0, 0, h, 0)` (R315 to R323). -/
def logic8 (res : Byte) (h : Bool) : Alu8 :=
  { res := res, flags := { z := decide (res = 0), n := false, h := h, c := false } }

/-- The eight two-operand operations of R157 on A, the operand and the carry (R303 to R326). CP computes SUB's result; that
it does not write A is `State.alu`'s business. -/
def alu8 (op : AluOp) (a v : Byte) (carry : Bool) : Alu8 :=
  match op with
  | .add => add8 a v 0
  | .adc => add8 a v (flagNat carry)
  | .sub => sub8 a v 0
  | .sbc => sub8 a v (flagNat carry)
  | .and => logic8 (a &&& v) true
  | .xor => logic8 (a ^^^ v) false
  | .or => logic8 (a ||| v) false
  | .cp => sub8 a v 0

/-- 8-bit INC: Z, N = 0, H from the low nibble, C kept (R327, R328). -/
def inc8 (v : Byte) (f : Flags) : Alu8 :=
  let res := v + 1
  { res := res, flags := { z := decide (res = 0), n := false, h := decide (v &&& 0x0F = 0x0F), c := f.c } }

/-- 8-bit DEC: Z, N = 1, H from the low nibble, C kept (R329, R330). -/
def dec8 (v : Byte) (f : Flags) : Alu8 :=
  let res := v - 1
  { res := res, flags := { z := decide (res = 0), n := true, h := decide (v &&& 0x0F = 0x00), c := f.c } }

/-- DAA's corrected accumulator and carry (R331), the two corrections of each branch in the rule's order. -/
def daaAdjust (a : Byte) (f : Flags) : Byte × Bool :=
  match f.n with
  | false =>
    let high := f.c || decide (a.toNat > 0x99)
    let a1 := if high then a + 0x60 else a
    let low := f.h || decide ((a1 &&& 0x0F).toNat > 0x09)
    (if low then a1 + 0x06 else a1, high)
  | true =>
    let a1 := if f.c then a - 0x60 else a
    (if f.h then a1 - 0x06 else a1, f.c)

/-- DAA: Z from the result, N kept, H = 0 (R331). -/
def daa8 (a : Byte) (f : Flags) : Alu8 :=
  let r := daaAdjust a f
  { res := r.1, flags := { z := decide (r.1 = 0), n := f.n, h := false, c := r.2 } }

/-- CPL: every bit of A inverted, N = H = 1, Z and C kept (R332). -/
def cpl8 (a : Byte) (f : Flags) : Alu8 := { res := ~~~a, flags := { f with n := true, h := true } }

/-- SCF's flags (R333). -/
def scfFlags (f : Flags) : Flags := { f with n := false, h := false, c := true }

/-- CCF's flags (R334). -/
def ccfFlags (f : Flags) : Flags := { f with n := false, h := false, c := !f.c }

/-- The stored sum of `ADD HL,rr` (R351). -/
def add16 (a b : Word) : Word := BitVec.ofNat 16 (a.toNat + b.toNat)

/-- The flags of `ADD HL,rr`: Z kept, N = 0, H the carry out of bit 11, C the carry out of bit 15 (R351). -/
def add16Flags (a b : Word) (f : Flags) : Flags :=
  { f with n := false
           h := decide (a.toNat % 0x1000 + b.toNat % 0x1000 > 0x0FFF), c := decide (a.toNat + b.toNat > 0xFFFF) }

/-- `SP + sext_16(e)` modulo 65536 (R254, R354). -/
def addSP (sp : Word) (e : Byte) : Word := sp + sext16 e

/-- The flags of `ADD SP,e8` and `LD HL,SP+e8`: Z = N = 0, H and C from the unsigned sum of `e` and SP's low byte
(R254, R354). -/
def addSPFlags (sp : Word) (e : Byte) : Flags where
  z := false
  n := false
  h := decide (sp.toNat % 16 + e.toNat % 16 > 0x0F)
  c := decide (sp.toNat % 256 + e.toNat > 0xFF)

/-- A flag as a byte, for a bit that is shifted in (R401 to R412). -/
def flagByte (f : Bool) : Byte := if f then 1 else 0

/-- The result byte of a rotate, shift or SWAP (R405 to R420; the accumulator forms R401 to R404 compute the same bytes). -/
def shiftRes (op : ShiftOp) (v : Byte) (carry : Bool) : Byte :=
  match op with
  | .rlc => (v <<< 1) ||| flagByte (v.getLsbD 7)
  | .rrc => (v >>> 1) ||| (flagByte (v.getLsbD 0) <<< 7)
  | .rl => (v <<< 1) ||| flagByte carry
  | .rr => (v >>> 1) ||| (flagByte carry <<< 7)
  | .sla => v <<< 1
  | .sra => (v >>> 1) ||| (v &&& 0x80)
  | .swap => ((v &&& 0x0F) <<< 4) ||| (v >>> 4)
  | .srl => v >>> 1

/-- The carry of a rotate or shift: the bit shifted out; 0 for SWAP (R405 to R420). -/
def shiftCarry (op : ShiftOp) (v : Byte) : Bool :=
  match op with
  | .rlc | .rl | .sla => v.getLsbD 7
  | .rrc | .rr | .sra | .srl => v.getLsbD 0
  | .swap => false

/-- The CB-prefixed rotates, shifts and SWAP with their flags `flags(res == 0, 0, 0, c)` (R405 to R420). -/
def shift8 (op : ShiftOp) (v : Byte) (carry : Bool) : Alu8 :=
  let res := shiftRes op v carry
  { res := res, flags := { z := decide (res = 0), n := false, h := false, c := shiftCarry op v } }

/-- `Zacc(res)` (R401): the zero test, or 0 when `ACC_ROTATE_Z` is `AlwaysClear`. -/
def zAcc (cfg : Config) (res : Byte) : Bool :=
  match cfg.accRotateZ with
  | .resultZero => decide (res = 0)
  | .alwaysClear => false

/-- The accumulator rotates: as the CB forms, but for Z (R401 to R404). -/
def accRotate8 (cfg : Config) (op : ShiftOp) (v : Byte) (carry : Bool) : Alu8 :=
  let r := shift8 op v carry
  { r with flags := { r.flags with z := zAcc cfg r.res } }

/-- BIT's flags: Z the complement of the tested bit, N = 0, H = 1, C kept (R421, R422). -/
def bitFlags (b : Fin 8) (v : Byte) (f : Flags) : Flags :=
  { f with z := !v.getLsbD b.val, n := false, h := true }

/-- RES: bit `b` cleared (R423, R424). -/
def resBit (b : Fin 8) (v : Byte) : Byte := v &&& ~~~((1 : Byte) <<< b.val)

/-- SET: bit `b` set (R425, R426). -/
def setBit (b : Fin 8) (v : Byte) : Byte := v ||| ((1 : Byte) <<< b.val)

end Sys2Proof.Machine
end

