-- ==== Sys2Proof/Machine/Ops.lean ====
section
/-! DEFINITION. The named operations over memory, the stack, the program counter and the cycle counter, and the shared
operations that take an interrupt, return from one and raise a fault. -/

namespace Sys2Proof.Machine

/-! ## Memory: FlatRAM (R100, R110) -/

/-- What an address that memory does not list reads as: the default of `INITIAL_MEMORY` (R10, R706; log entry 4). -/
def Memory.unlisted : Byte := 0x00

/-- The byte at a key: the first cell listed for it, or `unlisted`. -/
def Memory.readAt : Memory → Nat → Byte
  | [], _ => Memory.unlisted
  | (k, v) :: m, n => if k = n then v else Memory.readAt m n

/-- The list without the cells of a key. -/
def Memory.eraseAt (m : Memory) (n : Nat) : Memory := m.filter (fun cell => cell.1 != n)

/-- The list with a cell put before the first cell of a greater key. -/
def Memory.insertAt : Memory → Nat → Byte → Memory
  | [], n, v => [(n, v)]
  | (k, w) :: m, n, v => if n < k then (n, v) :: (k, w) :: m else (k, w) :: Memory.insertAt m n v

/-- The list after storing a byte at a key: no cell is kept that equals `unlisted`. -/
def Memory.writeAt (m : Memory) (n : Nat) (v : Byte) : Memory :=
  if v = Memory.unlisted then Memory.eraseAt m n else Memory.insertAt (Memory.eraseAt m n) n v

/-- `read(addr)` of FlatRAM (R110): every 16-bit address answers (R100). -/
def Memory.read (m : Memory) (a : Word) : Byte := Memory.readAt m a.toNat

/-- `write(addr, value)` of FlatRAM (R110). -/
def Memory.write (m : Memory) (a : Word) (v : Byte) : Memory := Memory.writeAt m a.toNat v

/-- The keys from `lo` on rise strictly, are 16-bit addresses, and no cell equals `unlisted`. -/
def Memory.wfFrom : Nat → Memory → Bool
  | _, [] => true
  | lo, (k, v) :: m => decide (lo ≤ k) && decide (k < 65536) && decide (v ≠ Memory.unlisted) && Memory.wfFrom (k + 1) m

/-- The canonical form of memory: equal memories are equal lists. -/
def Memory.wf (m : Memory) : Bool := Memory.wfFrom 0 m

/-! ## The memory contract (R101): `MemoryBus` of R10 -/

/-- `read(addr)` of the contract: FlatRAM's, or the platform's (R10, R101, R110; log entry 2). -/
def Store.read (m : Store) (bus : MemoryBus) (a : Word) : Byte :=
  match bus with
  | .flatRAM => m.ram.read a
  | .platform k => MemoryBus.platformRead k m.platform a

/-- `write(addr, value)` of the contract: FlatRAM's, or the platform's (R10, R101, R110; log entry 2). -/
def Store.write (m : Store) (bus : MemoryBus) (a : Word) (v : Byte) : Store :=
  match bus with
  | .flatRAM => { m with ram := m.ram.write a v }
  | .platform k => { m with platform := MemoryBus.platformWrite k m.platform a v }

/-- The bytes of FlatRAM are in canonical form. -/
def Store.wf (m : Store) : Bool := m.ram.wf

/-! ## Accesses of the block (R102 to R106) -/

/-- `MemRead(a, 1)` (R102). -/
def State.read8 (s : State) (a : Word) : Byte := s.mem.read s.cfg.memoryBus a

/-- `MemWrite(a, 1, v)` (R102). -/
def State.write8 (s : State) (a : Word) (v : Byte) : State := { s with mem := s.mem.write s.cfg.memoryBus a v }

/-- `readWord(a)`: little-endian, the high byte at `a + 1 mod 65536` (R103). -/
def State.readWord (s : State) (a : Word) : Word := join (s.read8 (a + 1)) (s.read8 a)

/-- The two byte writes of a word store, low byte first (R104). -/
def State.writeWord (s : State) (a : Word) (v : Word) : State := (s.write8 a (lo v)).write8 (a + 1) (hi v)

/-- `push16(v)`: the high byte at SP - 1, then the low byte at SP - 2 (R105). -/
def State.push16 (s : State) (v : Word) : State :=
  let s1 := { s with sp := s.sp - 1 }
  let s2 := s1.write8 s1.sp (hi v)
  let s3 := { s2 with sp := s2.sp - 1 }
  s3.write8 s3.sp (lo v)

/-- The value `pop16()` returns (R106). -/
def State.popValue (s : State) : Word := s.readWord s.sp

/-- The state `pop16()` leaves (R106). -/
def State.popped (s : State) : State := { s with sp := s.sp + 2 }

/-! ## The memory-mapped registers (R66 to R71, R111) -/

def addrDIV : Word := 0xFF04
def addrTIMA : Word := 0xFF05
def addrTMA : Word := 0xFF06
def addrTAC : Word := 0xFF07
def addrIF : Word := 0xFF0F
def addrIE : Word := 0xFFFF

/-- DIV (R66). -/
def State.regDIV (s : State) : Byte := s.read8 addrDIV
/-- TIMA (R67). -/
def State.regTIMA (s : State) : Byte := s.read8 addrTIMA
/-- TMA (R68). -/
def State.regTMA (s : State) : Byte := s.read8 addrTMA
/-- TAC (R69). -/
def State.regTAC (s : State) : Byte := s.read8 addrTAC
/-- IF (R70). -/
def State.regIF (s : State) : Byte := s.read8 addrIF
/-- IE (R71). -/
def State.regIE (s : State) : Byte := s.read8 addrIE

/-- `(IE & IF & 0x1F) != 0`: some source is both requested and enabled (R501, R618). -/
def State.pending (s : State) : Bool := (s.regIE &&& s.regIF &&& 0x1F) != 0

/-! ## The program counter and the cost of an instruction -/

/-- The pc after the `len` bytes of an instruction are fetched (R57, R150, R171): with `haltBug` set the opcode fetch does not
advance it. -/
def State.pcAfter (s : State) (len : Nat) : Word :=
  if s.haltBug then s.pc + BitVec.ofNat 16 len - 1 else s.pc + BitVec.ofNat 16 len

/-- The state after the `len` bytes of an instruction are fetched (R150): the pc is past them and `haltBug` is consumed. -/
def State.past (s : State) (len : Nat) : State := { s with pc := s.pcAfter len, haltBug := false }

/-- The row of `CycleCost` that replaces an opcode's cost, if there is one (R10). -/
def costRow (cfg : Config) (opcode : Nat) : Option CostRow := cfg.cycleCost.find? (fun row => row.opcode == opcode)

/-- The cost of an opcode whose rule states `cycles` (R626, R713): the rule's own unless `CycleCost` replaces it. -/
def costOf (cfg : Config) (opcode cycles : Nat) : Nat :=
  match costRow cfg opcode with
  | some row => row.cycles
  | none => cycles

/-- The cost of a conditional transfer that is not taken, whose rule states `cycles` (R626, R713). -/
def costNotTaken (cfg : Config) (opcode cycles : Nat) : Nat :=
  match costRow cfg opcode with
  | some row => row.cyclesNotTaken
  | none => cycles

/-- `cycleCounter <- cycleCounter + cycles` (R601, R627). -/
def State.charge (s : State) (cycles : Nat) : State := { s with cycleCounter := s.cycleCounter + cycles }

/-- An instruction of `len` bytes that completes: its bytes are fetched, its effect happens, and its cost is counted. The
effect sees the pc past the instruction (R57). -/
def State.run (s : State) (len opcode cycles : Nat) (effect : State → State) : Result :=
  .next ((effect (s.past len)).charge (costOf s.cfg opcode cycles))

/-- A conditional transfer whose condition does not hold: all its bytes are fetched and nothing else happens (R450). -/
def State.runNotTaken (s : State) (len opcode cycles : Nat) : Result :=
  .next ((s.past len).charge (costNotTaken s.cfg opcode cycles))

/-! ## Faults, and taking and leaving an interrupt -/

/-- `raise rec`: the step ends with the fault and changes nothing (R17, R602). The `fault` field is set by `State.recordFault`
where the step returns to the host, since a fault outcome carries no state. -/
def State.raise (_ : State) (f : Fault) : Result := .fault f

/-- The state a faulting step leaves (R602): as before the step, with `fault` set. -/
def State.recordFault (s : State) (f : Fault) : State := { s with fault := some f }

/-- The vector of source `i` (R607). -/
def vectorOf (i : Fin 5) : Word := 0x0040 + 8 * BitVec.ofNat 16 i.val

/-- Taking the interrupt of source `i` (R612, R613): its request bit is cleared and the other bits of IF are kept, IME and
`eiPending` are cleared, the pc is pushed and becomes the vector, and the core is no longer halted. -/
def State.takeInterrupt (s : State) (i : Fin 5) : State :=
  let s1 := s.write8 addrIF (s.regIF &&& ~~~((1 : Byte) <<< i.val))
  let s2 := { s1 with ime := false, eiPending := false }
  let s3 := s2.push16 s2.pc
  { s3 with pc := vectorOf i, halted := false }

/-- The return from an interrupt (R460, R617): the pc is popped, IME is set at once, and a pending EI is dropped. -/
def State.returnFromInterrupt (s : State) : State :=
  { s.popped with pc := s.popValue, ime := true, eiPending := false }

end Sys2Proof.Machine
end

