-- ==== Sys2Proof/Machine/Operands.lean ====
section
/-! DEFINITION. The register bank (R50 to R55) through its accessors, every operand form of R153 to R162, and the effects
shared by the instructions of a family, each as a function of the state past the instruction's bytes. -/

namespace Sys2Proof.Machine

/-! ## 8-bit registers (R153) -/

/-- `x[r]` for an 8-bit register. -/
def State.reg8 (s : State) (r : Reg8) : Byte :=
  match r with
  | .b => s.b
  | .c => s.c
  | .d => s.d
  | .e => s.e
  | .h => s.h
  | .l => s.l
  | .a => s.a

/-- `x[r] <- v` for an 8-bit register. -/
def State.setReg8 (s : State) (r : Reg8) (v : Byte) : State :=
  match r with
  | .b => { s with b := v }
  | .c => { s with c := v }
  | .d => { s with d := v }
  | .e => { s with e := v }
  | .h => { s with h := v }
  | .l => { s with l := v }
  | .a => { s with a := v }

/-! ## 16-bit pairs: views of the halves (R51, R52) -/

/-- `x[BC]` -/
def State.bc (s : State) : Word := join s.b s.c
/-- `x[DE]` -/
def State.de (s : State) : Word := join s.d s.e
/-- `x[HL]` -/
def State.hl (s : State) : Word := join s.h s.l
/-- F: bits 3 to 0 read as 0 (R53). -/
def State.f (s : State) : Byte := s.flags.toByte
/-- `x[AF]` -/
def State.af (s : State) : Word := join s.a s.f

/-- `x[HL] <- v` -/
def State.setHL (s : State) (v : Word) : State := { s with h := hi v, l := lo v }

/-- `x[rr]` for an operand of R154. -/
def State.reg16 (s : State) (r : Reg16) : Word :=
  match r with
  | .bc => s.bc
  | .de => s.de
  | .hl => s.hl
  | .sp => s.sp

/-- `x[rr] <- v` for an operand of R154. -/
def State.setReg16 (s : State) (r : Reg16) (v : Word) : State :=
  match r with
  | .bc => { s with b := hi v, c := lo v }
  | .de => { s with d := hi v, e := lo v }
  | .hl => s.setHL v
  | .sp => { s with sp := v }

/-- `x[rr]` for an operand of R155. -/
def State.regStk (s : State) (r : RegStk) : Word :=
  match r with
  | .bc => s.bc
  | .de => s.de
  | .hl => s.hl
  | .af => s.af

/-- `x[rr] <- v` for an operand of R155; a write to AF drops the low four bits of F (R53, R257). -/
def State.setRegStk (s : State) (r : RegStk) (v : Word) : State :=
  match r with
  | .bc => { s with b := hi v, c := lo v }
  | .de => { s with d := hi v, e := lo v }
  | .hl => s.setHL v
  | .af => { s with a := hi v, flags := Flags.ofByte (lo v) }

/-! ## Memory operands and conditions -/

/-- The byte at HL: index 6 of R153. -/
def State.atHL (s : State) : Byte := s.read8 s.hl

/-- A store to the byte at HL. -/
def State.setAtHL (s : State) (v : Byte) : State := s.write8 s.hl v

/-- The high-page address `0xFF00 | x[C]` (R162). -/
def State.pageC (s : State) : Word := highPage s.c

/-- `cond(cc)` (R156, R450). -/
def State.cond (s : State) (cc : Cond) : Bool :=
  match cc with
  | .nz => !s.flags.z
  | .z => s.flags.z
  | .nc => !s.flags.c
  | .c => s.flags.c

/-! ## Shared effects -/

/-- `x[A] <- MemRead(a, 1)` -/
def State.loadA (s : State) (a : Word) : State := { s with a := s.read8 a }

/-- `MemWrite(a, 1, x[A])` -/
def State.storeA (s : State) (a : Word) : State := s.write8 a s.a

/-- A two-operand operation on A (R300): A is written but by CP, and the flags are. -/
def State.alu (s : State) (op : AluOp) (v : Byte) : State :=
  let r := alu8 op s.a v s.flags.c
  { s with a := if op = .cp then s.a else r.res, flags := r.flags }

/-- A result written to an 8-bit register, with its flags. -/
def State.putReg (s : State) (r : Reg8) (x : Alu8) : State := { s.setReg8 r x.res with flags := x.flags }

/-- A result written to the byte at HL, with its flags. -/
def State.putAtHL (s : State) (x : Alu8) : State := { s.setAtHL x.res with flags := x.flags }

/-- `pop16()` into the program counter (R458). -/
def State.popPC (s : State) : State := { s.popped with pc := s.popValue }

/-- `push16(pc); pc <- a` (R456, R461). -/
def State.call (s : State) (a : Word) : State := { s.push16 s.pc with pc := a }

/-- `pc <- pc + sext_16(e) mod 65536` (R454). -/
def State.jumpRel (s : State) (e : Byte) : State := { s with pc := s.pc + sext16 e }

/-- `pc <- a` -/
def State.jump (s : State) (a : Word) : State := { s with pc := a }

end Sys2Proof.Machine
end

