-- ==== Sys2Proof/Machine/Alu16.lean ====
section
/-! DEFINITION. 16-bit arithmetic (43_alu16.md, R350 to R354). -/

namespace Sys2Proof.Machine

/-! ## Shared operations -/

/-- `ADD HL, rr` (R351). -/
def addHLPair (opcode : Nat) (r : Reg16) (s : State) : Result :=
  s.run 1 opcode 2 (fun t => { t.setHL (add16 t.hl (t.reg16 r)) with flags := add16Flags t.hl (t.reg16 r) t.flags })

/-- `INC rr`: no flag is written (R352). -/
def incPair (opcode : Nat) (r : Reg16) (s : State) : Result :=
  s.run 1 opcode 2 (fun t => t.setReg16 r (t.reg16 r + 1))

/-- `DEC rr`: no flag is written (R353). -/
def decPair (opcode : Nat) (r : Reg16) (s : State) : Result :=
  s.run 1 opcode 2 (fun t => t.setReg16 r (t.reg16 r - 1))

/-! ## The instructions -/

/-- ADD HL,BC (R351) -/
def exec_add_hl_bc (s : State) : Result := addHLPair 0x09 .bc s

/-- ADD HL,DE (R351) -/
def exec_add_hl_de (s : State) : Result := addHLPair 0x19 .de s

/-- ADD HL,HL (R351) -/
def exec_add_hl_hl (s : State) : Result := addHLPair 0x29 .hl s

/-- ADD HL,SP (R351) -/
def exec_add_hl_sp (s : State) : Result := addHLPair 0x39 .sp s

/-- INC BC (R352) -/
def exec_inc_bc (s : State) : Result := incPair 0x03 .bc s

/-- INC DE (R352) -/
def exec_inc_de (s : State) : Result := incPair 0x13 .de s

/-- INC HL (R352) -/
def exec_inc_hl (s : State) : Result := incPair 0x23 .hl s

/-- INC SP (R352) -/
def exec_inc_sp (s : State) : Result := incPair 0x33 .sp s

/-- DEC BC (R353) -/
def exec_dec_bc (s : State) : Result := decPair 0x0B .bc s

/-- DEC DE (R353) -/
def exec_dec_de (s : State) : Result := decPair 0x1B .de s

/-- DEC HL (R353) -/
def exec_dec_hl (s : State) : Result := decPair 0x2B .hl s

/-- DEC SP (R353) -/
def exec_dec_sp (s : State) : Result := decPair 0x3B .sp s

/-- ADD SP,e8 (R354) -/
def exec_add_sp_e8 (e : Byte) (s : State) : Result :=
  s.run 2 0xE8 4 (fun t => { t with sp := addSP t.sp e, flags := addSPFlags t.sp e })

end Sys2Proof.Machine
end

