-- ==== Sys2Proof/Machine/Alu8.lean ====
section
/-! DEFINITION. 8-bit arithmetic and logic (42_alu8.md, R300 to R334). The results and flags are those of Machine/Flags.lean. -/

namespace Sys2Proof.Machine

/-! ## Shared operations -/

/-- The register form of a two-operand operation: one byte, 1 cycle (R300). -/
def aluReg (opcode : Nat) (op : AluOp) (r : Reg8) (s : State) : Result :=
  s.run 1 opcode 1 (fun t => t.alu op (t.reg8 r))

/-- The `(HL)` form of a two-operand operation: one byte, 2 cycles (R300). -/
def aluAtHL (opcode : Nat) (op : AluOp) (s : State) : Result :=
  s.run 1 opcode 2 (fun t => t.alu op t.atHL)

/-- The `n8` form of a two-operand operation: two bytes, 2 cycles (R300). -/
def aluImm (opcode : Nat) (op : AluOp) (n : Byte) (s : State) : Result :=
  s.run 2 opcode 2 (fun t => t.alu op n)

/-- `INC r` (R327). -/
def incReg (opcode : Nat) (r : Reg8) (s : State) : Result :=
  s.run 1 opcode 1 (fun t => t.putReg r (inc8 (t.reg8 r) t.flags))

/-- `DEC r` (R329). -/
def decReg (opcode : Nat) (r : Reg8) (s : State) : Result :=
  s.run 1 opcode 1 (fun t => t.putReg r (dec8 (t.reg8 r) t.flags))

/-! ## The instructions -/

/-- ADD A,B (R303) -/
def exec_add_a_b (s : State) : Result := aluReg 0x80 .add .b s

/-- ADD A,C (R303) -/
def exec_add_a_c (s : State) : Result := aluReg 0x81 .add .c s

/-- ADD A,D (R303) -/
def exec_add_a_d (s : State) : Result := aluReg 0x82 .add .d s

/-- ADD A,E (R303) -/
def exec_add_a_e (s : State) : Result := aluReg 0x83 .add .e s

/-- ADD A,H (R303) -/
def exec_add_a_h (s : State) : Result := aluReg 0x84 .add .h s

/-- ADD A,L (R303) -/
def exec_add_a_l (s : State) : Result := aluReg 0x85 .add .l s

/-- ADD A,A (R303) -/
def exec_add_a_a (s : State) : Result := aluReg 0x87 .add .a s

/-- ADD A,(HL) (R304) -/
def exec_add_a_atHL (s : State) : Result := aluAtHL 0x86 .add s

/-- ADD A,n8 (R305) -/
def exec_add_a_n8 (n : Byte) (s : State) : Result := aluImm 0xC6 .add n s

/-- ADC A,B (R306) -/
def exec_adc_a_b (s : State) : Result := aluReg 0x88 .adc .b s

/-- ADC A,C (R306) -/
def exec_adc_a_c (s : State) : Result := aluReg 0x89 .adc .c s

/-- ADC A,D (R306) -/
def exec_adc_a_d (s : State) : Result := aluReg 0x8A .adc .d s

/-- ADC A,E (R306) -/
def exec_adc_a_e (s : State) : Result := aluReg 0x8B .adc .e s

/-- ADC A,H (R306) -/
def exec_adc_a_h (s : State) : Result := aluReg 0x8C .adc .h s

/-- ADC A,L (R306) -/
def exec_adc_a_l (s : State) : Result := aluReg 0x8D .adc .l s

/-- ADC A,A (R306) -/
def exec_adc_a_a (s : State) : Result := aluReg 0x8F .adc .a s

/-- ADC A,(HL) (R307) -/
def exec_adc_a_atHL (s : State) : Result := aluAtHL 0x8E .adc s

/-- ADC A,n8 (R308) -/
def exec_adc_a_n8 (n : Byte) (s : State) : Result := aluImm 0xCE .adc n s

/-- SUB B (R309) -/
def exec_sub_b (s : State) : Result := aluReg 0x90 .sub .b s

/-- SUB C (R309) -/
def exec_sub_c (s : State) : Result := aluReg 0x91 .sub .c s

/-- SUB D (R309) -/
def exec_sub_d (s : State) : Result := aluReg 0x92 .sub .d s

/-- SUB E (R309) -/
def exec_sub_e (s : State) : Result := aluReg 0x93 .sub .e s

/-- SUB H (R309) -/
def exec_sub_h (s : State) : Result := aluReg 0x94 .sub .h s

/-- SUB L (R309) -/
def exec_sub_l (s : State) : Result := aluReg 0x95 .sub .l s

/-- SUB A (R309) -/
def exec_sub_a (s : State) : Result := aluReg 0x97 .sub .a s

/-- SUB (HL) (R310) -/
def exec_sub_atHL (s : State) : Result := aluAtHL 0x96 .sub s

/-- SUB n8 (R311) -/
def exec_sub_n8 (n : Byte) (s : State) : Result := aluImm 0xD6 .sub n s

/-- SBC A,B (R312) -/
def exec_sbc_a_b (s : State) : Result := aluReg 0x98 .sbc .b s

/-- SBC A,C (R312) -/
def exec_sbc_a_c (s : State) : Result := aluReg 0x99 .sbc .c s

/-- SBC A,D (R312) -/
def exec_sbc_a_d (s : State) : Result := aluReg 0x9A .sbc .d s

/-- SBC A,E (R312) -/
def exec_sbc_a_e (s : State) : Result := aluReg 0x9B .sbc .e s

/-- SBC A,H (R312) -/
def exec_sbc_a_h (s : State) : Result := aluReg 0x9C .sbc .h s

/-- SBC A,L (R312) -/
def exec_sbc_a_l (s : State) : Result := aluReg 0x9D .sbc .l s

/-- SBC A,A (R312) -/
def exec_sbc_a_a (s : State) : Result := aluReg 0x9F .sbc .a s

/-- SBC A,(HL) (R313) -/
def exec_sbc_a_atHL (s : State) : Result := aluAtHL 0x9E .sbc s

/-- SBC A,n8 (R314) -/
def exec_sbc_a_n8 (n : Byte) (s : State) : Result := aluImm 0xDE .sbc n s

/-- AND B (R315) -/
def exec_and_b (s : State) : Result := aluReg 0xA0 .and .b s

/-- AND C (R315) -/
def exec_and_c (s : State) : Result := aluReg 0xA1 .and .c s

/-- AND D (R315) -/
def exec_and_d (s : State) : Result := aluReg 0xA2 .and .d s

/-- AND E (R315) -/
def exec_and_e (s : State) : Result := aluReg 0xA3 .and .e s

/-- AND H (R315) -/
def exec_and_h (s : State) : Result := aluReg 0xA4 .and .h s

/-- AND L (R315) -/
def exec_and_l (s : State) : Result := aluReg 0xA5 .and .l s

/-- AND A (R315) -/
def exec_and_a (s : State) : Result := aluReg 0xA7 .and .a s

/-- AND (HL) (R316) -/
def exec_and_atHL (s : State) : Result := aluAtHL 0xA6 .and s

/-- AND n8 (R317) -/
def exec_and_n8 (n : Byte) (s : State) : Result := aluImm 0xE6 .and n s

/-- XOR B (R318) -/
def exec_xor_b (s : State) : Result := aluReg 0xA8 .xor .b s

/-- XOR C (R318) -/
def exec_xor_c (s : State) : Result := aluReg 0xA9 .xor .c s

/-- XOR D (R318) -/
def exec_xor_d (s : State) : Result := aluReg 0xAA .xor .d s

/-- XOR E (R318) -/
def exec_xor_e (s : State) : Result := aluReg 0xAB .xor .e s

/-- XOR H (R318) -/
def exec_xor_h (s : State) : Result := aluReg 0xAC .xor .h s

/-- XOR L (R318) -/
def exec_xor_l (s : State) : Result := aluReg 0xAD .xor .l s

/-- XOR A (R318) -/
def exec_xor_a (s : State) : Result := aluReg 0xAF .xor .a s

/-- XOR (HL) (R319) -/
def exec_xor_atHL (s : State) : Result := aluAtHL 0xAE .xor s

/-- XOR n8 (R320) -/
def exec_xor_n8 (n : Byte) (s : State) : Result := aluImm 0xEE .xor n s

/-- OR B (R321) -/
def exec_or_b (s : State) : Result := aluReg 0xB0 .or .b s

/-- OR C (R321) -/
def exec_or_c (s : State) : Result := aluReg 0xB1 .or .c s

/-- OR D (R321) -/
def exec_or_d (s : State) : Result := aluReg 0xB2 .or .d s

/-- OR E (R321) -/
def exec_or_e (s : State) : Result := aluReg 0xB3 .or .e s

/-- OR H (R321) -/
def exec_or_h (s : State) : Result := aluReg 0xB4 .or .h s

/-- OR L (R321) -/
def exec_or_l (s : State) : Result := aluReg 0xB5 .or .l s

/-- OR A (R321) -/
def exec_or_a (s : State) : Result := aluReg 0xB7 .or .a s

/-- OR (HL) (R322) -/
def exec_or_atHL (s : State) : Result := aluAtHL 0xB6 .or s

/-- OR n8 (R323) -/
def exec_or_n8 (n : Byte) (s : State) : Result := aluImm 0xF6 .or n s

/-- CP B (R324) -/
def exec_cp_b (s : State) : Result := aluReg 0xB8 .cp .b s

/-- CP C (R324) -/
def exec_cp_c (s : State) : Result := aluReg 0xB9 .cp .c s

/-- CP D (R324) -/
def exec_cp_d (s : State) : Result := aluReg 0xBA .cp .d s

/-- CP E (R324) -/
def exec_cp_e (s : State) : Result := aluReg 0xBB .cp .e s

/-- CP H (R324) -/
def exec_cp_h (s : State) : Result := aluReg 0xBC .cp .h s

/-- CP L (R324) -/
def exec_cp_l (s : State) : Result := aluReg 0xBD .cp .l s

/-- CP A (R324) -/
def exec_cp_a (s : State) : Result := aluReg 0xBF .cp .a s

/-- CP (HL) (R325) -/
def exec_cp_atHL (s : State) : Result := aluAtHL 0xBE .cp s

/-- CP n8 (R326) -/
def exec_cp_n8 (n : Byte) (s : State) : Result := aluImm 0xFE .cp n s

/-- INC B (R327) -/
def exec_inc_b (s : State) : Result := incReg 0x04 .b s

/-- INC C (R327) -/
def exec_inc_c (s : State) : Result := incReg 0x0C .c s

/-- INC D (R327) -/
def exec_inc_d (s : State) : Result := incReg 0x14 .d s

/-- INC E (R327) -/
def exec_inc_e (s : State) : Result := incReg 0x1C .e s

/-- INC H (R327) -/
def exec_inc_h (s : State) : Result := incReg 0x24 .h s

/-- INC L (R327) -/
def exec_inc_l (s : State) : Result := incReg 0x2C .l s

/-- INC A (R327) -/
def exec_inc_a (s : State) : Result := incReg 0x3C .a s

/-- INC (HL) (R328) -/
def exec_inc_atHL (s : State) : Result := s.run 1 0x34 3 (fun t => t.putAtHL (inc8 t.atHL t.flags))

/-- DEC B (R329) -/
def exec_dec_b (s : State) : Result := decReg 0x05 .b s

/-- DEC C (R329) -/
def exec_dec_c (s : State) : Result := decReg 0x0D .c s

/-- DEC D (R329) -/
def exec_dec_d (s : State) : Result := decReg 0x15 .d s

/-- DEC E (R329) -/
def exec_dec_e (s : State) : Result := decReg 0x1D .e s

/-- DEC H (R329) -/
def exec_dec_h (s : State) : Result := decReg 0x25 .h s

/-- DEC L (R329) -/
def exec_dec_l (s : State) : Result := decReg 0x2D .l s

/-- DEC A (R329) -/
def exec_dec_a (s : State) : Result := decReg 0x3D .a s

/-- DEC (HL) (R330) -/
def exec_dec_atHL (s : State) : Result := s.run 1 0x35 3 (fun t => t.putAtHL (dec8 t.atHL t.flags))

/-- DAA (R331) -/
def exec_daa (s : State) : Result := s.run 1 0x27 1 (fun t => t.putReg .a (daa8 t.a t.flags))

/-- CPL (R332) -/
def exec_cpl (s : State) : Result := s.run 1 0x2F 1 (fun t => t.putReg .a (cpl8 t.a t.flags))

/-- SCF (R333) -/
def exec_scf (s : State) : Result := s.run 1 0x37 1 (fun t => { t with flags := scfFlags t.flags })

/-- CCF (R334) -/
def exec_ccf (s : State) : Result := s.run 1 0x3F 1 (fun t => { t with flags := ccfFlags t.flags })

end Sys2Proof.Machine
end

