-- ==== Sys2Proof/Machine/Control.lean ====
section
/-! DEFINITION. Control transfer (45_control.md, R450 to R461). The condition is tested on the flags, which fetching does not change. -/

namespace Sys2Proof.Machine

/-! ## Shared operations -/

/-- `JP cc, a16`: 4 cycles taken, 3 not (R452). -/
def jpCond (opcode : Nat) (cc : Cond) (a : Word) (s : State) : Result :=
  if s.cond cc then s.run 3 opcode 4 (fun t => t.jump a) else s.runNotTaken 3 opcode 3

/-- `JR cc, e8`: 3 cycles taken, `JR_CC_NOT_TAKEN_CYCLES` not (R455). -/
def jrCond (opcode : Nat) (cc : Cond) (e : Byte) (s : State) : Result :=
  if s.cond cc then s.run 2 opcode 3 (fun t => t.jumpRel e) else s.runNotTaken 2 opcode s.cfg.jrCcNotTakenCycles

/-- `CALL cc, a16`: 6 cycles taken, 3 not (R457). -/
def callCond (opcode : Nat) (cc : Cond) (a : Word) (s : State) : Result :=
  if s.cond cc then s.run 3 opcode 6 (fun t => t.call a) else s.runNotTaken 3 opcode 3

/-- `RET cc`: 5 cycles taken, 2 not (R459). -/
def retCond (opcode : Nat) (cc : Cond) (s : State) : Result :=
  if s.cond cc then s.run 1 opcode 5 (fun t => t.popPC) else s.runNotTaken 1 opcode 2

/-- `RST t` (R461). -/
def rstTo (opcode : Nat) (a : Word) (s : State) : Result := s.run 1 opcode 4 (fun t => t.call a)

/-! ## The instructions -/

/-- JP a16 (R451) -/
def exec_jp_a16 (a : Word) (s : State) : Result := s.run 3 0xC3 4 (fun t => t.jump a)

/-- JP NZ,a16 (R452) -/
def exec_jp_nz_a16 (a : Word) (s : State) : Result := jpCond 0xC2 .nz a s

/-- JP Z,a16 (R452) -/
def exec_jp_z_a16 (a : Word) (s : State) : Result := jpCond 0xCA .z a s

/-- JP NC,a16 (R452) -/
def exec_jp_nc_a16 (a : Word) (s : State) : Result := jpCond 0xD2 .nc a s

/-- JP C,a16 (R452) -/
def exec_jp_c_a16 (a : Word) (s : State) : Result := jpCond 0xDA .c a s

/-- JP HL (R453) -/
def exec_jp_hl (s : State) : Result := s.run 1 0xE9 1 (fun t => t.jump t.hl)

/-- JR e8 (R454) -/
def exec_jr_e8 (e : Byte) (s : State) : Result := s.run 2 0x18 3 (fun t => t.jumpRel e)

/-- JR NZ,e8 (R455) -/
def exec_jr_nz_e8 (e : Byte) (s : State) : Result := jrCond 0x20 .nz e s

/-- JR Z,e8 (R455) -/
def exec_jr_z_e8 (e : Byte) (s : State) : Result := jrCond 0x28 .z e s

/-- JR NC,e8 (R455) -/
def exec_jr_nc_e8 (e : Byte) (s : State) : Result := jrCond 0x30 .nc e s

/-- JR C,e8 (R455) -/
def exec_jr_c_e8 (e : Byte) (s : State) : Result := jrCond 0x38 .c e s

/-- CALL a16 (R456) -/
def exec_call_a16 (a : Word) (s : State) : Result := s.run 3 0xCD 6 (fun t => t.call a)

/-- CALL NZ,a16 (R457) -/
def exec_call_nz_a16 (a : Word) (s : State) : Result := callCond 0xC4 .nz a s

/-- CALL Z,a16 (R457) -/
def exec_call_z_a16 (a : Word) (s : State) : Result := callCond 0xCC .z a s

/-- CALL NC,a16 (R457) -/
def exec_call_nc_a16 (a : Word) (s : State) : Result := callCond 0xD4 .nc a s

/-- CALL C,a16 (R457) -/
def exec_call_c_a16 (a : Word) (s : State) : Result := callCond 0xDC .c a s

/-- RET (R458) -/
def exec_ret (s : State) : Result := s.run 1 0xC9 4 (fun t => t.popPC)

/-- RET NZ (R459) -/
def exec_ret_nz (s : State) : Result := retCond 0xC0 .nz s

/-- RET Z (R459) -/
def exec_ret_z (s : State) : Result := retCond 0xC8 .z s

/-- RET NC (R459) -/
def exec_ret_nc (s : State) : Result := retCond 0xD0 .nc s

/-- RET C (R459) -/
def exec_ret_c (s : State) : Result := retCond 0xD8 .c s

/-- RETI (R460) -/
def exec_reti (s : State) : Result := s.run 1 0xD9 4 (fun t => t.returnFromInterrupt)

/-- RST 0x00 (R461) -/
def exec_rst_00 (s : State) : Result := rstTo 0xC7 0x0000 s

/-- RST 0x08 (R461) -/
def exec_rst_08 (s : State) : Result := rstTo 0xCF 0x0008 s

/-- RST 0x10 (R461) -/
def exec_rst_10 (s : State) : Result := rstTo 0xD7 0x0010 s

/-- RST 0x18 (R461) -/
def exec_rst_18 (s : State) : Result := rstTo 0xDF 0x0018 s

/-- RST 0x20 (R461) -/
def exec_rst_20 (s : State) : Result := rstTo 0xE7 0x0020 s

/-- RST 0x28 (R461) -/
def exec_rst_28 (s : State) : Result := rstTo 0xEF 0x0028 s

/-- RST 0x30 (R461) -/
def exec_rst_30 (s : State) : Result := rstTo 0xF7 0x0030 s

/-- RST 0x38 (R461) -/
def exec_rst_38 (s : State) : Result := rstTo 0xFF 0x0038 s

end Sys2Proof.Machine
end

