-- ==== Sys2Proof/Machine/Loads16.lean ====
section
/-! DEFINITION. 16-bit loads, push and pop (41_loads16.md, R250 to R257). Only `LD HL,SP+e8` and `POP AF` write flags (R250). -/

namespace Sys2Proof.Machine

/-! ## Shared operations -/

/-- `LD rr, n16` (R251). -/
def ldPairImm (opcode : Nat) (r : Reg16) (v : Word) (s : State) : Result :=
  s.run 3 opcode 3 (fun t => t.setReg16 r v)

/-- `PUSH rr` (R255). -/
def pushPair (opcode : Nat) (r : RegStk) (s : State) : Result :=
  s.run 1 opcode 4 (fun t => t.push16 (t.regStk r))

/-- `POP rr` and `POP AF` (R256, R257): the word at SP, and SP past it. -/
def popPair (opcode : Nat) (r : RegStk) (s : State) : Result :=
  s.run 1 opcode 3 (fun t => t.popped.setRegStk r t.popValue)

/-! ## The instructions -/

/-- LD BC,n16 (R251) -/
def exec_ld_bc_n16 (v : Word) (s : State) : Result := ldPairImm 0x01 .bc v s

/-- LD DE,n16 (R251) -/
def exec_ld_de_n16 (v : Word) (s : State) : Result := ldPairImm 0x11 .de v s

/-- LD HL,n16 (R251) -/
def exec_ld_hl_n16 (v : Word) (s : State) : Result := ldPairImm 0x21 .hl v s

/-- LD SP,n16 (R251) -/
def exec_ld_sp_n16 (v : Word) (s : State) : Result := ldPairImm 0x31 .sp v s

/-- LD (a16),SP (R252) -/
def exec_ld_atA16_sp (a : Word) (s : State) : Result := s.run 3 0x08 5 (fun t => t.writeWord a t.sp)

/-- LD SP,HL (R253) -/
def exec_ld_sp_hl (s : State) : Result := s.run 1 0xF9 2 (fun t => { t with sp := t.hl })

/-- LD HL,SP+e8 (R254) -/
def exec_ld_hl_spE8 (e : Byte) (s : State) : Result :=
  s.run 2 0xF8 3 (fun t => { t.setHL (addSP t.sp e) with flags := addSPFlags t.sp e })

/-- PUSH BC (R255) -/
def exec_push_bc (s : State) : Result := pushPair 0xC5 .bc s

/-- PUSH DE (R255) -/
def exec_push_de (s : State) : Result := pushPair 0xD5 .de s

/-- PUSH HL (R255) -/
def exec_push_hl (s : State) : Result := pushPair 0xE5 .hl s

/-- PUSH AF (R255) -/
def exec_push_af (s : State) : Result := pushPair 0xF5 .af s

/-- POP BC (R256) -/
def exec_pop_bc (s : State) : Result := popPair 0xC1 .bc s

/-- POP DE (R256) -/
def exec_pop_de (s : State) : Result := popPair 0xD1 .de s

/-- POP HL (R256) -/
def exec_pop_hl (s : State) : Result := popPair 0xE1 .hl s

/-- POP AF (R257) -/
def exec_pop_af (s : State) : Result := popPair 0xF1 .af s

end Sys2Proof.Machine
end

