-- ==== Sys2Proof/Machine/Loads8.lean ====
section
/-! DEFINITION. 8-bit loads and stores (40_loads8.md, R200 to R219). Each is an effect on the state past its bytes; none writes a flag or
raises a fault (R200). The forms of one shape share an operation. -/

namespace Sys2Proof.Machine

/-! ## Shared operations -/

/-- `LD r, r'`: `x[dst] <- x[r]` (R201). -/
def ldRegReg (opcode : Nat) (dst r : Reg8) (s : State) : Result :=
  s.run 1 opcode 1 (fun t => t.setReg8 dst (t.reg8 r))

/-- `LD r, n8`: `x[dst] <- n` (R202). -/
def ldRegImm (opcode : Nat) (dst : Reg8) (n : Byte) (s : State) : Result :=
  s.run 2 opcode 2 (fun t => t.setReg8 dst n)

/-- `LD r, (HL)`: the read uses HL as it is before the write (R203). -/
def ldRegAtHL (opcode : Nat) (dst : Reg8) (s : State) : Result :=
  s.run 1 opcode 2 (fun t => t.setReg8 dst t.atHL)

/-- `LD (HL), r` (R204). -/
def ldAtHLReg (opcode : Nat) (r : Reg8) (s : State) : Result :=
  s.run 1 opcode 2 (fun t => t.setAtHL (t.reg8 r))

/-! ## The instructions -/

/-- LD B,B (R201) -/
def exec_ld_b_b (s : State) : Result := ldRegReg 0x40 .b .b s

/-- LD B,C (R201) -/
def exec_ld_b_c (s : State) : Result := ldRegReg 0x41 .b .c s

/-- LD B,D (R201) -/
def exec_ld_b_d (s : State) : Result := ldRegReg 0x42 .b .d s

/-- LD B,E (R201) -/
def exec_ld_b_e (s : State) : Result := ldRegReg 0x43 .b .e s

/-- LD B,H (R201) -/
def exec_ld_b_h (s : State) : Result := ldRegReg 0x44 .b .h s

/-- LD B,L (R201) -/
def exec_ld_b_l (s : State) : Result := ldRegReg 0x45 .b .l s

/-- LD B,A (R201) -/
def exec_ld_b_a (s : State) : Result := ldRegReg 0x47 .b .a s

/-- LD C,B (R201) -/
def exec_ld_c_b (s : State) : Result := ldRegReg 0x48 .c .b s

/-- LD C,C (R201) -/
def exec_ld_c_c (s : State) : Result := ldRegReg 0x49 .c .c s

/-- LD C,D (R201) -/
def exec_ld_c_d (s : State) : Result := ldRegReg 0x4A .c .d s

/-- LD C,E (R201) -/
def exec_ld_c_e (s : State) : Result := ldRegReg 0x4B .c .e s

/-- LD C,H (R201) -/
def exec_ld_c_h (s : State) : Result := ldRegReg 0x4C .c .h s

/-- LD C,L (R201) -/
def exec_ld_c_l (s : State) : Result := ldRegReg 0x4D .c .l s

/-- LD C,A (R201) -/
def exec_ld_c_a (s : State) : Result := ldRegReg 0x4F .c .a s

/-- LD D,B (R201) -/
def exec_ld_d_b (s : State) : Result := ldRegReg 0x50 .d .b s

/-- LD D,C (R201) -/
def exec_ld_d_c (s : State) : Result := ldRegReg 0x51 .d .c s

/-- LD D,D (R201) -/
def exec_ld_d_d (s : State) : Result := ldRegReg 0x52 .d .d s

/-- LD D,E (R201) -/
def exec_ld_d_e (s : State) : Result := ldRegReg 0x53 .d .e s

/-- LD D,H (R201) -/
def exec_ld_d_h (s : State) : Result := ldRegReg 0x54 .d .h s

/-- LD D,L (R201) -/
def exec_ld_d_l (s : State) : Result := ldRegReg 0x55 .d .l s

/-- LD D,A (R201) -/
def exec_ld_d_a (s : State) : Result := ldRegReg 0x57 .d .a s

/-- LD E,B (R201) -/
def exec_ld_e_b (s : State) : Result := ldRegReg 0x58 .e .b s

/-- LD E,C (R201) -/
def exec_ld_e_c (s : State) : Result := ldRegReg 0x59 .e .c s

/-- LD E,D (R201) -/
def exec_ld_e_d (s : State) : Result := ldRegReg 0x5A .e .d s

/-- LD E,E (R201) -/
def exec_ld_e_e (s : State) : Result := ldRegReg 0x5B .e .e s

/-- LD E,H (R201) -/
def exec_ld_e_h (s : State) : Result := ldRegReg 0x5C .e .h s

/-- LD E,L (R201) -/
def exec_ld_e_l (s : State) : Result := ldRegReg 0x5D .e .l s

/-- LD E,A (R201) -/
def exec_ld_e_a (s : State) : Result := ldRegReg 0x5F .e .a s

/-- LD H,B (R201) -/
def exec_ld_h_b (s : State) : Result := ldRegReg 0x60 .h .b s

/-- LD H,C (R201) -/
def exec_ld_h_c (s : State) : Result := ldRegReg 0x61 .h .c s

/-- LD H,D (R201) -/
def exec_ld_h_d (s : State) : Result := ldRegReg 0x62 .h .d s

/-- LD H,E (R201) -/
def exec_ld_h_e (s : State) : Result := ldRegReg 0x63 .h .e s

/-- LD H,H (R201) -/
def exec_ld_h_h (s : State) : Result := ldRegReg 0x64 .h .h s

/-- LD H,L (R201) -/
def exec_ld_h_l (s : State) : Result := ldRegReg 0x65 .h .l s

/-- LD H,A (R201) -/
def exec_ld_h_a (s : State) : Result := ldRegReg 0x67 .h .a s

/-- LD L,B (R201) -/
def exec_ld_l_b (s : State) : Result := ldRegReg 0x68 .l .b s

/-- LD L,C (R201) -/
def exec_ld_l_c (s : State) : Result := ldRegReg 0x69 .l .c s

/-- LD L,D (R201) -/
def exec_ld_l_d (s : State) : Result := ldRegReg 0x6A .l .d s

/-- LD L,E (R201) -/
def exec_ld_l_e (s : State) : Result := ldRegReg 0x6B .l .e s

/-- LD L,H (R201) -/
def exec_ld_l_h (s : State) : Result := ldRegReg 0x6C .l .h s

/-- LD L,L (R201) -/
def exec_ld_l_l (s : State) : Result := ldRegReg 0x6D .l .l s

/-- LD L,A (R201) -/
def exec_ld_l_a (s : State) : Result := ldRegReg 0x6F .l .a s

/-- LD A,B (R201) -/
def exec_ld_a_b (s : State) : Result := ldRegReg 0x78 .a .b s

/-- LD A,C (R201) -/
def exec_ld_a_c (s : State) : Result := ldRegReg 0x79 .a .c s

/-- LD A,D (R201) -/
def exec_ld_a_d (s : State) : Result := ldRegReg 0x7A .a .d s

/-- LD A,E (R201) -/
def exec_ld_a_e (s : State) : Result := ldRegReg 0x7B .a .e s

/-- LD A,H (R201) -/
def exec_ld_a_h (s : State) : Result := ldRegReg 0x7C .a .h s

/-- LD A,L (R201) -/
def exec_ld_a_l (s : State) : Result := ldRegReg 0x7D .a .l s

/-- LD A,A (R201) -/
def exec_ld_a_a (s : State) : Result := ldRegReg 0x7F .a .a s

/-- LD B,n8 (R202) -/
def exec_ld_b_n8 (n : Byte) (s : State) : Result := ldRegImm 0x06 .b n s

/-- LD C,n8 (R202) -/
def exec_ld_c_n8 (n : Byte) (s : State) : Result := ldRegImm 0x0E .c n s

/-- LD D,n8 (R202) -/
def exec_ld_d_n8 (n : Byte) (s : State) : Result := ldRegImm 0x16 .d n s

/-- LD E,n8 (R202) -/
def exec_ld_e_n8 (n : Byte) (s : State) : Result := ldRegImm 0x1E .e n s

/-- LD H,n8 (R202) -/
def exec_ld_h_n8 (n : Byte) (s : State) : Result := ldRegImm 0x26 .h n s

/-- LD L,n8 (R202) -/
def exec_ld_l_n8 (n : Byte) (s : State) : Result := ldRegImm 0x2E .l n s

/-- LD A,n8 (R202) -/
def exec_ld_a_n8 (n : Byte) (s : State) : Result := ldRegImm 0x3E .a n s

/-- LD B,(HL) (R203) -/
def exec_ld_b_atHL (s : State) : Result := ldRegAtHL 0x46 .b s

/-- LD C,(HL) (R203) -/
def exec_ld_c_atHL (s : State) : Result := ldRegAtHL 0x4E .c s

/-- LD D,(HL) (R203) -/
def exec_ld_d_atHL (s : State) : Result := ldRegAtHL 0x56 .d s

/-- LD E,(HL) (R203) -/
def exec_ld_e_atHL (s : State) : Result := ldRegAtHL 0x5E .e s

/-- LD H,(HL) (R203) -/
def exec_ld_h_atHL (s : State) : Result := ldRegAtHL 0x66 .h s

/-- LD L,(HL) (R203) -/
def exec_ld_l_atHL (s : State) : Result := ldRegAtHL 0x6E .l s

/-- LD A,(HL) (R203) -/
def exec_ld_a_atHL (s : State) : Result := ldRegAtHL 0x7E .a s

/-- LD (HL),B (R204) -/
def exec_ld_atHL_b (s : State) : Result := ldAtHLReg 0x70 .b s

/-- LD (HL),C (R204) -/
def exec_ld_atHL_c (s : State) : Result := ldAtHLReg 0x71 .c s

/-- LD (HL),D (R204) -/
def exec_ld_atHL_d (s : State) : Result := ldAtHLReg 0x72 .d s

/-- LD (HL),E (R204) -/
def exec_ld_atHL_e (s : State) : Result := ldAtHLReg 0x73 .e s

/-- LD (HL),H (R204) -/
def exec_ld_atHL_h (s : State) : Result := ldAtHLReg 0x74 .h s

/-- LD (HL),L (R204) -/
def exec_ld_atHL_l (s : State) : Result := ldAtHLReg 0x75 .l s

/-- LD (HL),A (R204) -/
def exec_ld_atHL_a (s : State) : Result := ldAtHLReg 0x77 .a s

/-- LD (HL),n8 (R205) -/
def exec_ld_atHL_n8 (n : Byte) (s : State) : Result := s.run 2 0x36 3 (fun t => t.setAtHL n)

/-- LD A,(BC) (R206) -/
def exec_ld_a_atBC (s : State) : Result := s.run 1 0x0A 2 (fun t => t.loadA t.bc)

/-- LD A,(DE) (R207) -/
def exec_ld_a_atDE (s : State) : Result := s.run 1 0x1A 2 (fun t => t.loadA t.de)

/-- LD (BC),A (R208) -/
def exec_ld_atBC_a (s : State) : Result := s.run 1 0x02 2 (fun t => t.storeA t.bc)

/-- LD (DE),A (R209) -/
def exec_ld_atDE_a (s : State) : Result := s.run 1 0x12 2 (fun t => t.storeA t.de)

/-- LD A,(a16) (R210) -/
def exec_ld_a_atA16 (a : Word) (s : State) : Result := s.run 3 0xFA 4 (fun t => t.loadA a)

/-- LD (a16),A (R211) -/
def exec_ld_atA16_a (a : Word) (s : State) : Result := s.run 3 0xEA 4 (fun t => t.storeA a)

/-- LDH A,(a8) (R212) -/
def exec_ldh_a_atA8 (a : Byte) (s : State) : Result := s.run 2 0xF0 3 (fun t => t.loadA (highPage a))

/-- LDH (a8),A (R213) -/
def exec_ldh_atA8_a (a : Byte) (s : State) : Result := s.run 2 0xE0 3 (fun t => t.storeA (highPage a))

/-- LD A,(C) (R214) -/
def exec_ld_a_atC (s : State) : Result := s.run 1 0xF2 2 (fun t => t.loadA t.pageC)

/-- LD (C),A (R215) -/
def exec_ld_atC_a (s : State) : Result := s.run 1 0xE2 2 (fun t => t.storeA t.pageC)

/-- LD (HL+),A (R216) -/
def exec_ld_atHLI_a (s : State) : Result := s.run 1 0x22 2 (fun t => (t.storeA t.hl).setHL (t.hl + 1))

/-- LD A,(HL+) (R217) -/
def exec_ld_a_atHLI (s : State) : Result := s.run 1 0x2A 2 (fun t => (t.loadA t.hl).setHL (t.hl + 1))

/-- LD (HL-),A (R218) -/
def exec_ld_atHLD_a (s : State) : Result := s.run 1 0x32 2 (fun t => (t.storeA t.hl).setHL (t.hl - 1))

/-- LD A,(HL-) (R219) -/
def exec_ld_a_atHLD (s : State) : Result := s.run 1 0x3A 2 (fun t => (t.loadA t.hl).setHL (t.hl - 1))

end Sys2Proof.Machine
end

