-- ==== Sys2Proof/Machine/Rotate.lean ====
section
/-! DEFINITION. Rotates, shifts and single-bit operations (44_rotate_shift_bit.md, R400 to R426). The results and flags are those of
Machine/Flags.lean; the costs of the CB forms are R400's: 2 on a register, 4 on `(HL)`, 3 for `BIT b,(HL)`. -/

namespace Sys2Proof.Machine

/-! ## Shared operations -/

/-- RLCA, RRCA, RLA, RRA (R401 to R404). -/
def accRotate (opcode : Nat) (op : ShiftOp) (s : State) : Result :=
  s.run 1 opcode 1 (fun t => t.putReg .a (accRotate8 t.cfg op t.a t.flags.c))

/-- A CB rotate, shift or SWAP of a register (R405 to R419). -/
def shiftReg (opcode : Nat) (op : ShiftOp) (r : Reg8) (s : State) : Result :=
  s.run 2 opcode 2 (fun t => t.putReg r (shift8 op (t.reg8 r) t.flags.c))

/-- A CB rotate, shift or SWAP of the byte at HL (R406 to R420). -/
def shiftAtHL (opcode : Nat) (op : ShiftOp) (s : State) : Result :=
  s.run 2 opcode 4 (fun t => t.putAtHL (shift8 op t.atHL t.flags.c))

/-- `BIT b, r` (R421). -/
def bitReg (opcode : Nat) (b : Fin 8) (r : Reg8) (s : State) : Result :=
  s.run 2 opcode 2 (fun t => { t with flags := bitFlags b (t.reg8 r) t.flags })

/-- `BIT b, (HL)`: memory is only read (R422). -/
def bitAtHL (opcode : Nat) (b : Fin 8) (s : State) : Result :=
  s.run 2 opcode 3 (fun t => { t with flags := bitFlags b t.atHL t.flags })

/-- `RES b, r` (R423). -/
def resReg (opcode : Nat) (b : Fin 8) (r : Reg8) (s : State) : Result :=
  s.run 2 opcode 2 (fun t => t.setReg8 r (resBit b (t.reg8 r)))

/-- `RES b, (HL)` (R424). -/
def resAtHL (opcode : Nat) (b : Fin 8) (s : State) : Result :=
  s.run 2 opcode 4 (fun t => t.setAtHL (resBit b t.atHL))

/-- `SET b, r` (R425). -/
def setReg (opcode : Nat) (b : Fin 8) (r : Reg8) (s : State) : Result :=
  s.run 2 opcode 2 (fun t => t.setReg8 r (setBit b (t.reg8 r)))

/-- `SET b, (HL)` (R426). -/
def setAtHL (opcode : Nat) (b : Fin 8) (s : State) : Result :=
  s.run 2 opcode 4 (fun t => t.setAtHL (setBit b t.atHL))

/-! ## The instructions -/

/-- RLCA (R401) -/
def exec_rlca (s : State) : Result := accRotate 0x07 .rlc s

/-- RRCA (R402) -/
def exec_rrca (s : State) : Result := accRotate 0x0F .rrc s

/-- RLA (R403) -/
def exec_rla (s : State) : Result := accRotate 0x17 .rl s

/-- RRA (R404) -/
def exec_rra (s : State) : Result := accRotate 0x1F .rr s

/-- RLC B (R405) -/
def exec_rlc_b (s : State) : Result := shiftReg 0xCB00 .rlc .b s

/-- RLC C (R405) -/
def exec_rlc_c (s : State) : Result := shiftReg 0xCB01 .rlc .c s

/-- RLC D (R405) -/
def exec_rlc_d (s : State) : Result := shiftReg 0xCB02 .rlc .d s

/-- RLC E (R405) -/
def exec_rlc_e (s : State) : Result := shiftReg 0xCB03 .rlc .e s

/-- RLC H (R405) -/
def exec_rlc_h (s : State) : Result := shiftReg 0xCB04 .rlc .h s

/-- RLC L (R405) -/
def exec_rlc_l (s : State) : Result := shiftReg 0xCB05 .rlc .l s

/-- RLC A (R405) -/
def exec_rlc_a (s : State) : Result := shiftReg 0xCB07 .rlc .a s

/-- RLC (HL) (R406) -/
def exec_rlc_atHL (s : State) : Result := shiftAtHL 0xCB06 .rlc s

/-- RRC B (R407) -/
def exec_rrc_b (s : State) : Result := shiftReg 0xCB08 .rrc .b s

/-- RRC C (R407) -/
def exec_rrc_c (s : State) : Result := shiftReg 0xCB09 .rrc .c s

/-- RRC D (R407) -/
def exec_rrc_d (s : State) : Result := shiftReg 0xCB0A .rrc .d s

/-- RRC E (R407) -/
def exec_rrc_e (s : State) : Result := shiftReg 0xCB0B .rrc .e s

/-- RRC H (R407) -/
def exec_rrc_h (s : State) : Result := shiftReg 0xCB0C .rrc .h s

/-- RRC L (R407) -/
def exec_rrc_l (s : State) : Result := shiftReg 0xCB0D .rrc .l s

/-- RRC A (R407) -/
def exec_rrc_a (s : State) : Result := shiftReg 0xCB0F .rrc .a s

/-- RRC (HL) (R408) -/
def exec_rrc_atHL (s : State) : Result := shiftAtHL 0xCB0E .rrc s

/-- RL B (R409) -/
def exec_rl_b (s : State) : Result := shiftReg 0xCB10 .rl .b s

/-- RL C (R409) -/
def exec_rl_c (s : State) : Result := shiftReg 0xCB11 .rl .c s

/-- RL D (R409) -/
def exec_rl_d (s : State) : Result := shiftReg 0xCB12 .rl .d s

/-- RL E (R409) -/
def exec_rl_e (s : State) : Result := shiftReg 0xCB13 .rl .e s

/-- RL H (R409) -/
def exec_rl_h (s : State) : Result := shiftReg 0xCB14 .rl .h s

/-- RL L (R409) -/
def exec_rl_l (s : State) : Result := shiftReg 0xCB15 .rl .l s

/-- RL A (R409) -/
def exec_rl_a (s : State) : Result := shiftReg 0xCB17 .rl .a s

/-- RL (HL) (R410) -/
def exec_rl_atHL (s : State) : Result := shiftAtHL 0xCB16 .rl s

/-- RR B (R411) -/
def exec_rr_b (s : State) : Result := shiftReg 0xCB18 .rr .b s

/-- RR C (R411) -/
def exec_rr_c (s : State) : Result := shiftReg 0xCB19 .rr .c s

/-- RR D (R411) -/
def exec_rr_d (s : State) : Result := shiftReg 0xCB1A .rr .d s

/-- RR E (R411) -/
def exec_rr_e (s : State) : Result := shiftReg 0xCB1B .rr .e s

/-- RR H (R411) -/
def exec_rr_h (s : State) : Result := shiftReg 0xCB1C .rr .h s

/-- RR L (R411) -/
def exec_rr_l (s : State) : Result := shiftReg 0xCB1D .rr .l s

/-- RR A (R411) -/
def exec_rr_a (s : State) : Result := shiftReg 0xCB1F .rr .a s

/-- RR (HL) (R412) -/
def exec_rr_atHL (s : State) : Result := shiftAtHL 0xCB1E .rr s

/-- SLA B (R413) -/
def exec_sla_b (s : State) : Result := shiftReg 0xCB20 .sla .b s

/-- SLA C (R413) -/
def exec_sla_c (s : State) : Result := shiftReg 0xCB21 .sla .c s

/-- SLA D (R413) -/
def exec_sla_d (s : State) : Result := shiftReg 0xCB22 .sla .d s

/-- SLA E (R413) -/
def exec_sla_e (s : State) : Result := shiftReg 0xCB23 .sla .e s

/-- SLA H (R413) -/
def exec_sla_h (s : State) : Result := shiftReg 0xCB24 .sla .h s

/-- SLA L (R413) -/
def exec_sla_l (s : State) : Result := shiftReg 0xCB25 .sla .l s

/-- SLA A (R413) -/
def exec_sla_a (s : State) : Result := shiftReg 0xCB27 .sla .a s

/-- SLA (HL) (R414) -/
def exec_sla_atHL (s : State) : Result := shiftAtHL 0xCB26 .sla s

/-- SRA B (R415) -/
def exec_sra_b (s : State) : Result := shiftReg 0xCB28 .sra .b s

/-- SRA C (R415) -/
def exec_sra_c (s : State) : Result := shiftReg 0xCB29 .sra .c s

/-- SRA D (R415) -/
def exec_sra_d (s : State) : Result := shiftReg 0xCB2A .sra .d s

/-- SRA E (R415) -/
def exec_sra_e (s : State) : Result := shiftReg 0xCB2B .sra .e s

/-- SRA H (R415) -/
def exec_sra_h (s : State) : Result := shiftReg 0xCB2C .sra .h s

/-- SRA L (R415) -/
def exec_sra_l (s : State) : Result := shiftReg 0xCB2D .sra .l s

/-- SRA A (R415) -/
def exec_sra_a (s : State) : Result := shiftReg 0xCB2F .sra .a s

/-- SRA (HL) (R416) -/
def exec_sra_atHL (s : State) : Result := shiftAtHL 0xCB2E .sra s

/-- SWAP B (R417) -/
def exec_swap_b (s : State) : Result := shiftReg 0xCB30 .swap .b s

/-- SWAP C (R417) -/
def exec_swap_c (s : State) : Result := shiftReg 0xCB31 .swap .c s

/-- SWAP D (R417) -/
def exec_swap_d (s : State) : Result := shiftReg 0xCB32 .swap .d s

/-- SWAP E (R417) -/
def exec_swap_e (s : State) : Result := shiftReg 0xCB33 .swap .e s

/-- SWAP H (R417) -/
def exec_swap_h (s : State) : Result := shiftReg 0xCB34 .swap .h s

/-- SWAP L (R417) -/
def exec_swap_l (s : State) : Result := shiftReg 0xCB35 .swap .l s

/-- SWAP A (R417) -/
def exec_swap_a (s : State) : Result := shiftReg 0xCB37 .swap .a s

/-- SWAP (HL) (R418) -/
def exec_swap_atHL (s : State) : Result := shiftAtHL 0xCB36 .swap s

/-- SRL B (R419) -/
def exec_srl_b (s : State) : Result := shiftReg 0xCB38 .srl .b s

/-- SRL C (R419) -/
def exec_srl_c (s : State) : Result := shiftReg 0xCB39 .srl .c s

/-- SRL D (R419) -/
def exec_srl_d (s : State) : Result := shiftReg 0xCB3A .srl .d s

/-- SRL E (R419) -/
def exec_srl_e (s : State) : Result := shiftReg 0xCB3B .srl .e s

/-- SRL H (R419) -/
def exec_srl_h (s : State) : Result := shiftReg 0xCB3C .srl .h s

/-- SRL L (R419) -/
def exec_srl_l (s : State) : Result := shiftReg 0xCB3D .srl .l s

/-- SRL A (R419) -/
def exec_srl_a (s : State) : Result := shiftReg 0xCB3F .srl .a s

/-- SRL (HL) (R420) -/
def exec_srl_atHL (s : State) : Result := shiftAtHL 0xCB3E .srl s

/-- BIT 0,B (R421) -/
def exec_bit_0_b (s : State) : Result := bitReg 0xCB40 0 .b s

/-- BIT 0,C (R421) -/
def exec_bit_0_c (s : State) : Result := bitReg 0xCB41 0 .c s

/-- BIT 0,D (R421) -/
def exec_bit_0_d (s : State) : Result := bitReg 0xCB42 0 .d s

/-- BIT 0,E (R421) -/
def exec_bit_0_e (s : State) : Result := bitReg 0xCB43 0 .e s

/-- BIT 0,H (R421) -/
def exec_bit_0_h (s : State) : Result := bitReg 0xCB44 0 .h s

/-- BIT 0,L (R421) -/
def exec_bit_0_l (s : State) : Result := bitReg 0xCB45 0 .l s

/-- BIT 0,A (R421) -/
def exec_bit_0_a (s : State) : Result := bitReg 0xCB47 0 .a s

/-- BIT 1,B (R421) -/
def exec_bit_1_b (s : State) : Result := bitReg 0xCB48 1 .b s

/-- BIT 1,C (R421) -/
def exec_bit_1_c (s : State) : Result := bitReg 0xCB49 1 .c s

/-- BIT 1,D (R421) -/
def exec_bit_1_d (s : State) : Result := bitReg 0xCB4A 1 .d s

/-- BIT 1,E (R421) -/
def exec_bit_1_e (s : State) : Result := bitReg 0xCB4B 1 .e s

/-- BIT 1,H (R421) -/
def exec_bit_1_h (s : State) : Result := bitReg 0xCB4C 1 .h s

/-- BIT 1,L (R421) -/
def exec_bit_1_l (s : State) : Result := bitReg 0xCB4D 1 .l s

/-- BIT 1,A (R421) -/
def exec_bit_1_a (s : State) : Result := bitReg 0xCB4F 1 .a s

/-- BIT 2,B (R421) -/
def exec_bit_2_b (s : State) : Result := bitReg 0xCB50 2 .b s

/-- BIT 2,C (R421) -/
def exec_bit_2_c (s : State) : Result := bitReg 0xCB51 2 .c s

/-- BIT 2,D (R421) -/
def exec_bit_2_d (s : State) : Result := bitReg 0xCB52 2 .d s

/-- BIT 2,E (R421) -/
def exec_bit_2_e (s : State) : Result := bitReg 0xCB53 2 .e s

/-- BIT 2,H (R421) -/
def exec_bit_2_h (s : State) : Result := bitReg 0xCB54 2 .h s

/-- BIT 2,L (R421) -/
def exec_bit_2_l (s : State) : Result := bitReg 0xCB55 2 .l s

/-- BIT 2,A (R421) -/
def exec_bit_2_a (s : State) : Result := bitReg 0xCB57 2 .a s

/-- BIT 3,B (R421) -/
def exec_bit_3_b (s : State) : Result := bitReg 0xCB58 3 .b s

/-- BIT 3,C (R421) -/
def exec_bit_3_c (s : State) : Result := bitReg 0xCB59 3 .c s

/-- BIT 3,D (R421) -/
def exec_bit_3_d (s : State) : Result := bitReg 0xCB5A 3 .d s

/-- BIT 3,E (R421) -/
def exec_bit_3_e (s : State) : Result := bitReg 0xCB5B 3 .e s

/-- BIT 3,H (R421) -/
def exec_bit_3_h (s : State) : Result := bitReg 0xCB5C 3 .h s

/-- BIT 3,L (R421) -/
def exec_bit_3_l (s : State) : Result := bitReg 0xCB5D 3 .l s

/-- BIT 3,A (R421) -/
def exec_bit_3_a (s : State) : Result := bitReg 0xCB5F 3 .a s

/-- BIT 4,B (R421) -/
def exec_bit_4_b (s : State) : Result := bitReg 0xCB60 4 .b s

/-- BIT 4,C (R421) -/
def exec_bit_4_c (s : State) : Result := bitReg 0xCB61 4 .c s

/-- BIT 4,D (R421) -/
def exec_bit_4_d (s : State) : Result := bitReg 0xCB62 4 .d s

/-- BIT 4,E (R421) -/
def exec_bit_4_e (s : State) : Result := bitReg 0xCB63 4 .e s

/-- BIT 4,H (R421) -/
def exec_bit_4_h (s : State) : Result := bitReg 0xCB64 4 .h s

/-- BIT 4,L (R421) -/
def exec_bit_4_l (s : State) : Result := bitReg 0xCB65 4 .l s

/-- BIT 4,A (R421) -/
def exec_bit_4_a (s : State) : Result := bitReg 0xCB67 4 .a s

/-- BIT 5,B (R421) -/
def exec_bit_5_b (s : State) : Result := bitReg 0xCB68 5 .b s

/-- BIT 5,C (R421) -/
def exec_bit_5_c (s : State) : Result := bitReg 0xCB69 5 .c s

/-- BIT 5,D (R421) -/
def exec_bit_5_d (s : State) : Result := bitReg 0xCB6A 5 .d s

/-- BIT 5,E (R421) -/
def exec_bit_5_e (s : State) : Result := bitReg 0xCB6B 5 .e s

/-- BIT 5,H (R421) -/
def exec_bit_5_h (s : State) : Result := bitReg 0xCB6C 5 .h s

/-- BIT 5,L (R421) -/
def exec_bit_5_l (s : State) : Result := bitReg 0xCB6D 5 .l s

/-- BIT 5,A (R421) -/
def exec_bit_5_a (s : State) : Result := bitReg 0xCB6F 5 .a s

/-- BIT 6,B (R421) -/
def exec_bit_6_b (s : State) : Result := bitReg 0xCB70 6 .b s

/-- BIT 6,C (R421) -/
def exec_bit_6_c (s : State) : Result := bitReg 0xCB71 6 .c s

/-- BIT 6,D (R421) -/
def exec_bit_6_d (s : State) : Result := bitReg 0xCB72 6 .d s

/-- BIT 6,E (R421) -/
def exec_bit_6_e (s : State) : Result := bitReg 0xCB73 6 .e s

/-- BIT 6,H (R421) -/
def exec_bit_6_h (s : State) : Result := bitReg 0xCB74 6 .h s

/-- BIT 6,L (R421) -/
def exec_bit_6_l (s : State) : Result := bitReg 0xCB75 6 .l s

/-- BIT 6,A (R421) -/
def exec_bit_6_a (s : State) : Result := bitReg 0xCB77 6 .a s

/-- BIT 7,B (R421) -/
def exec_bit_7_b (s : State) : Result := bitReg 0xCB78 7 .b s

/-- BIT 7,C (R421) -/
def exec_bit_7_c (s : State) : Result := bitReg 0xCB79 7 .c s

/-- BIT 7,D (R421) -/
def exec_bit_7_d (s : State) : Result := bitReg 0xCB7A 7 .d s

/-- BIT 7,E (R421) -/
def exec_bit_7_e (s : State) : Result := bitReg 0xCB7B 7 .e s

/-- BIT 7,H (R421) -/
def exec_bit_7_h (s : State) : Result := bitReg 0xCB7C 7 .h s

/-- BIT 7,L (R421) -/
def exec_bit_7_l (s : State) : Result := bitReg 0xCB7D 7 .l s

/-- BIT 7,A (R421) -/
def exec_bit_7_a (s : State) : Result := bitReg 0xCB7F 7 .a s

/-- BIT 0,(HL) (R422) -/
def exec_bit_0_atHL (s : State) : Result := bitAtHL 0xCB46 0 s

/-- BIT 1,(HL) (R422) -/
def exec_bit_1_atHL (s : State) : Result := bitAtHL 0xCB4E 1 s

/-- BIT 2,(HL) (R422) -/
def exec_bit_2_atHL (s : State) : Result := bitAtHL 0xCB56 2 s

/-- BIT 3,(HL) (R422) -/
def exec_bit_3_atHL (s : State) : Result := bitAtHL 0xCB5E 3 s

/-- BIT 4,(HL) (R422) -/
def exec_bit_4_atHL (s : State) : Result := bitAtHL 0xCB66 4 s

/-- BIT 5,(HL) (R422) -/
def exec_bit_5_atHL (s : State) : Result := bitAtHL 0xCB6E 5 s

/-- BIT 6,(HL) (R422) -/
def exec_bit_6_atHL (s : State) : Result := bitAtHL 0xCB76 6 s

/-- BIT 7,(HL) (R422) -/
def exec_bit_7_atHL (s : State) : Result := bitAtHL 0xCB7E 7 s

/-- RES 0,B (R423) -/
def exec_res_0_b (s : State) : Result := resReg 0xCB80 0 .b s

/-- RES 0,C (R423) -/
def exec_res_0_c (s : State) : Result := resReg 0xCB81 0 .c s

/-- RES 0,D (R423) -/
def exec_res_0_d (s : State) : Result := resReg 0xCB82 0 .d s

/-- RES 0,E (R423) -/
def exec_res_0_e (s : State) : Result := resReg 0xCB83 0 .e s

/-- RES 0,H (R423) -/
def exec_res_0_h (s : State) : Result := resReg 0xCB84 0 .h s

/-- RES 0,L (R423) -/
def exec_res_0_l (s : State) : Result := resReg 0xCB85 0 .l s

/-- RES 0,A (R423) -/
def exec_res_0_a (s : State) : Result := resReg 0xCB87 0 .a s

/-- RES 1,B (R423) -/
def exec_res_1_b (s : State) : Result := resReg 0xCB88 1 .b s

/-- RES 1,C (R423) -/
def exec_res_1_c (s : State) : Result := resReg 0xCB89 1 .c s

/-- RES 1,D (R423) -/
def exec_res_1_d (s : State) : Result := resReg 0xCB8A 1 .d s

/-- RES 1,E (R423) -/
def exec_res_1_e (s : State) : Result := resReg 0xCB8B 1 .e s

/-- RES 1,H (R423) -/
def exec_res_1_h (s : State) : Result := resReg 0xCB8C 1 .h s

/-- RES 1,L (R423) -/
def exec_res_1_l (s : State) : Result := resReg 0xCB8D 1 .l s

/-- RES 1,A (R423) -/
def exec_res_1_a (s : State) : Result := resReg 0xCB8F 1 .a s

/-- RES 2,B (R423) -/
def exec_res_2_b (s : State) : Result := resReg 0xCB90 2 .b s

/-- RES 2,C (R423) -/
def exec_res_2_c (s : State) : Result := resReg 0xCB91 2 .c s

/-- RES 2,D (R423) -/
def exec_res_2_d (s : State) : Result := resReg 0xCB92 2 .d s

/-- RES 2,E (R423) -/
def exec_res_2_e (s : State) : Result := resReg 0xCB93 2 .e s

/-- RES 2,H (R423) -/
def exec_res_2_h (s : State) : Result := resReg 0xCB94 2 .h s

/-- RES 2,L (R423) -/
def exec_res_2_l (s : State) : Result := resReg 0xCB95 2 .l s

/-- RES 2,A (R423) -/
def exec_res_2_a (s : State) : Result := resReg 0xCB97 2 .a s

/-- RES 3,B (R423) -/
def exec_res_3_b (s : State) : Result := resReg 0xCB98 3 .b s

/-- RES 3,C (R423) -/
def exec_res_3_c (s : State) : Result := resReg 0xCB99 3 .c s

/-- RES 3,D (R423) -/
def exec_res_3_d (s : State) : Result := resReg 0xCB9A 3 .d s

/-- RES 3,E (R423) -/
def exec_res_3_e (s : State) : Result := resReg 0xCB9B 3 .e s

/-- RES 3,H (R423) -/
def exec_res_3_h (s : State) : Result := resReg 0xCB9C 3 .h s

/-- RES 3,L (R423) -/
def exec_res_3_l (s : State) : Result := resReg 0xCB9D 3 .l s

/-- RES 3,A (R423) -/
def exec_res_3_a (s : State) : Result := resReg 0xCB9F 3 .a s

/-- RES 4,B (R423) -/
def exec_res_4_b (s : State) : Result := resReg 0xCBA0 4 .b s

/-- RES 4,C (R423) -/
def exec_res_4_c (s : State) : Result := resReg 0xCBA1 4 .c s

/-- RES 4,D (R423) -/
def exec_res_4_d (s : State) : Result := resReg 0xCBA2 4 .d s

/-- RES 4,E (R423) -/
def exec_res_4_e (s : State) : Result := resReg 0xCBA3 4 .e s

/-- RES 4,H (R423) -/
def exec_res_4_h (s : State) : Result := resReg 0xCBA4 4 .h s

/-- RES 4,L (R423) -/
def exec_res_4_l (s : State) : Result := resReg 0xCBA5 4 .l s

/-- RES 4,A (R423) -/
def exec_res_4_a (s : State) : Result := resReg 0xCBA7 4 .a s

/-- RES 5,B (R423) -/
def exec_res_5_b (s : State) : Result := resReg 0xCBA8 5 .b s

/-- RES 5,C (R423) -/
def exec_res_5_c (s : State) : Result := resReg 0xCBA9 5 .c s

/-- RES 5,D (R423) -/
def exec_res_5_d (s : State) : Result := resReg 0xCBAA 5 .d s

/-- RES 5,E (R423) -/
def exec_res_5_e (s : State) : Result := resReg 0xCBAB 5 .e s

/-- RES 5,H (R423) -/
def exec_res_5_h (s : State) : Result := resReg 0xCBAC 5 .h s

/-- RES 5,L (R423) -/
def exec_res_5_l (s : State) : Result := resReg 0xCBAD 5 .l s

/-- RES 5,A (R423) -/
def exec_res_5_a (s : State) : Result := resReg 0xCBAF 5 .a s

/-- RES 6,B (R423) -/
def exec_res_6_b (s : State) : Result := resReg 0xCBB0 6 .b s

/-- RES 6,C (R423) -/
def exec_res_6_c (s : State) : Result := resReg 0xCBB1 6 .c s

/-- RES 6,D (R423) -/
def exec_res_6_d (s : State) : Result := resReg 0xCBB2 6 .d s

/-- RES 6,E (R423) -/
def exec_res_6_e (s : State) : Result := resReg 0xCBB3 6 .e s

/-- RES 6,H (R423) -/
def exec_res_6_h (s : State) : Result := resReg 0xCBB4 6 .h s

/-- RES 6,L (R423) -/
def exec_res_6_l (s : State) : Result := resReg 0xCBB5 6 .l s

/-- RES 6,A (R423) -/
def exec_res_6_a (s : State) : Result := resReg 0xCBB7 6 .a s

/-- RES 7,B (R423) -/
def exec_res_7_b (s : State) : Result := resReg 0xCBB8 7 .b s

/-- RES 7,C (R423) -/
def exec_res_7_c (s : State) : Result := resReg 0xCBB9 7 .c s

/-- RES 7,D (R423) -/
def exec_res_7_d (s : State) : Result := resReg 0xCBBA 7 .d s

/-- RES 7,E (R423) -/
def exec_res_7_e (s : State) : Result := resReg 0xCBBB 7 .e s

/-- RES 7,H (R423) -/
def exec_res_7_h (s : State) : Result := resReg 0xCBBC 7 .h s

/-- RES 7,L (R423) -/
def exec_res_7_l (s : State) : Result := resReg 0xCBBD 7 .l s

/-- RES 7,A (R423) -/
def exec_res_7_a (s : State) : Result := resReg 0xCBBF 7 .a s

/-- RES 0,(HL) (R424) -/
def exec_res_0_atHL (s : State) : Result := resAtHL 0xCB86 0 s

/-- RES 1,(HL) (R424) -/
def exec_res_1_atHL (s : State) : Result := resAtHL 0xCB8E 1 s

/-- RES 2,(HL) (R424) -/
def exec_res_2_atHL (s : State) : Result := resAtHL 0xCB96 2 s

/-- RES 3,(HL) (R424) -/
def exec_res_3_atHL (s : State) : Result := resAtHL 0xCB9E 3 s

/-- RES 4,(HL) (R424) -/
def exec_res_4_atHL (s : State) : Result := resAtHL 0xCBA6 4 s

/-- RES 5,(HL) (R424) -/
def exec_res_5_atHL (s : State) : Result := resAtHL 0xCBAE 5 s

/-- RES 6,(HL) (R424) -/
def exec_res_6_atHL (s : State) : Result := resAtHL 0xCBB6 6 s

/-- RES 7,(HL) (R424) -/
def exec_res_7_atHL (s : State) : Result := resAtHL 0xCBBE 7 s

/-- SET 0,B (R425) -/
def exec_set_0_b (s : State) : Result := setReg 0xCBC0 0 .b s

/-- SET 0,C (R425) -/
def exec_set_0_c (s : State) : Result := setReg 0xCBC1 0 .c s

/-- SET 0,D (R425) -/
def exec_set_0_d (s : State) : Result := setReg 0xCBC2 0 .d s

/-- SET 0,E (R425) -/
def exec_set_0_e (s : State) : Result := setReg 0xCBC3 0 .e s

/-- SET 0,H (R425) -/
def exec_set_0_h (s : State) : Result := setReg 0xCBC4 0 .h s

/-- SET 0,L (R425) -/
def exec_set_0_l (s : State) : Result := setReg 0xCBC5 0 .l s

/-- SET 0,A (R425) -/
def exec_set_0_a (s : State) : Result := setReg 0xCBC7 0 .a s

/-- SET 1,B (R425) -/
def exec_set_1_b (s : State) : Result := setReg 0xCBC8 1 .b s

/-- SET 1,C (R425) -/
def exec_set_1_c (s : State) : Result := setReg 0xCBC9 1 .c s

/-- SET 1,D (R425) -/
def exec_set_1_d (s : State) : Result := setReg 0xCBCA 1 .d s

/-- SET 1,E (R425) -/
def exec_set_1_e (s : State) : Result := setReg 0xCBCB 1 .e s

/-- SET 1,H (R425) -/
def exec_set_1_h (s : State) : Result := setReg 0xCBCC 1 .h s

/-- SET 1,L (R425) -/
def exec_set_1_l (s : State) : Result := setReg 0xCBCD 1 .l s

/-- SET 1,A (R425) -/
def exec_set_1_a (s : State) : Result := setReg 0xCBCF 1 .a s

/-- SET 2,B (R425) -/
def exec_set_2_b (s : State) : Result := setReg 0xCBD0 2 .b s

/-- SET 2,C (R425) -/
def exec_set_2_c (s : State) : Result := setReg 0xCBD1 2 .c s

/-- SET 2,D (R425) -/
def exec_set_2_d (s : State) : Result := setReg 0xCBD2 2 .d s

/-- SET 2,E (R425) -/
def exec_set_2_e (s : State) : Result := setReg 0xCBD3 2 .e s

/-- SET 2,H (R425) -/
def exec_set_2_h (s : State) : Result := setReg 0xCBD4 2 .h s

/-- SET 2,L (R425) -/
def exec_set_2_l (s : State) : Result := setReg 0xCBD5 2 .l s

/-- SET 2,A (R425) -/
def exec_set_2_a (s : State) : Result := setReg 0xCBD7 2 .a s

/-- SET 3,B (R425) -/
def exec_set_3_b (s : State) : Result := setReg 0xCBD8 3 .b s

/-- SET 3,C (R425) -/
def exec_set_3_c (s : State) : Result := setReg 0xCBD9 3 .c s

/-- SET 3,D (R425) -/
def exec_set_3_d (s : State) : Result := setReg 0xCBDA 3 .d s

/-- SET 3,E (R425) -/
def exec_set_3_e (s : State) : Result := setReg 0xCBDB 3 .e s

/-- SET 3,H (R425) -/
def exec_set_3_h (s : State) : Result := setReg 0xCBDC 3 .h s

/-- SET 3,L (R425) -/
def exec_set_3_l (s : State) : Result := setReg 0xCBDD 3 .l s

/-- SET 3,A (R425) -/
def exec_set_3_a (s : State) : Result := setReg 0xCBDF 3 .a s

/-- SET 4,B (R425) -/
def exec_set_4_b (s : State) : Result := setReg 0xCBE0 4 .b s

/-- SET 4,C (R425) -/
def exec_set_4_c (s : State) : Result := setReg 0xCBE1 4 .c s

/-- SET 4,D (R425) -/
def exec_set_4_d (s : State) : Result := setReg 0xCBE2 4 .d s

/-- SET 4,E (R425) -/
def exec_set_4_e (s : State) : Result := setReg 0xCBE3 4 .e s

/-- SET 4,H (R425) -/
def exec_set_4_h (s : State) : Result := setReg 0xCBE4 4 .h s

/-- SET 4,L (R425) -/
def exec_set_4_l (s : State) : Result := setReg 0xCBE5 4 .l s

/-- SET 4,A (R425) -/
def exec_set_4_a (s : State) : Result := setReg 0xCBE7 4 .a s

/-- SET 5,B (R425) -/
def exec_set_5_b (s : State) : Result := setReg 0xCBE8 5 .b s

/-- SET 5,C (R425) -/
def exec_set_5_c (s : State) : Result := setReg 0xCBE9 5 .c s

/-- SET 5,D (R425) -/
def exec_set_5_d (s : State) : Result := setReg 0xCBEA 5 .d s

/-- SET 5,E (R425) -/
def exec_set_5_e (s : State) : Result := setReg 0xCBEB 5 .e s

/-- SET 5,H (R425) -/
def exec_set_5_h (s : State) : Result := setReg 0xCBEC 5 .h s

/-- SET 5,L (R425) -/
def exec_set_5_l (s : State) : Result := setReg 0xCBED 5 .l s

/-- SET 5,A (R425) -/
def exec_set_5_a (s : State) : Result := setReg 0xCBEF 5 .a s

/-- SET 6,B (R425) -/
def exec_set_6_b (s : State) : Result := setReg 0xCBF0 6 .b s

/-- SET 6,C (R425) -/
def exec_set_6_c (s : State) : Result := setReg 0xCBF1 6 .c s

/-- SET 6,D (R425) -/
def exec_set_6_d (s : State) : Result := setReg 0xCBF2 6 .d s

/-- SET 6,E (R425) -/
def exec_set_6_e (s : State) : Result := setReg 0xCBF3 6 .e s

/-- SET 6,H (R425) -/
def exec_set_6_h (s : State) : Result := setReg 0xCBF4 6 .h s

/-- SET 6,L (R425) -/
def exec_set_6_l (s : State) : Result := setReg 0xCBF5 6 .l s

/-- SET 6,A (R425) -/
def exec_set_6_a (s : State) : Result := setReg 0xCBF7 6 .a s

/-- SET 7,B (R425) -/
def exec_set_7_b (s : State) : Result := setReg 0xCBF8 7 .b s

/-- SET 7,C (R425) -/
def exec_set_7_c (s : State) : Result := setReg 0xCBF9 7 .c s

/-- SET 7,D (R425) -/
def exec_set_7_d (s : State) : Result := setReg 0xCBFA 7 .d s

/-- SET 7,E (R425) -/
def exec_set_7_e (s : State) : Result := setReg 0xCBFB 7 .e s

/-- SET 7,H (R425) -/
def exec_set_7_h (s : State) : Result := setReg 0xCBFC 7 .h s

/-- SET 7,L (R425) -/
def exec_set_7_l (s : State) : Result := setReg 0xCBFD 7 .l s

/-- SET 7,A (R425) -/
def exec_set_7_a (s : State) : Result := setReg 0xCBFF 7 .a s

/-- SET 0,(HL) (R426) -/
def exec_set_0_atHL (s : State) : Result := setAtHL 0xCBC6 0 s

/-- SET 1,(HL) (R426) -/
def exec_set_1_atHL (s : State) : Result := setAtHL 0xCBCE 1 s

/-- SET 2,(HL) (R426) -/
def exec_set_2_atHL (s : State) : Result := setAtHL 0xCBD6 2 s

/-- SET 3,(HL) (R426) -/
def exec_set_3_atHL (s : State) : Result := setAtHL 0xCBDE 3 s

/-- SET 4,(HL) (R426) -/
def exec_set_4_atHL (s : State) : Result := setAtHL 0xCBE6 4 s

/-- SET 5,(HL) (R426) -/
def exec_set_5_atHL (s : State) : Result := setAtHL 0xCBEE 5 s

/-- SET 6,(HL) (R426) -/
def exec_set_6_atHL (s : State) : Result := setAtHL 0xCBF6 6 s

/-- SET 7,(HL) (R426) -/
def exec_set_7_atHL (s : State) : Result := setAtHL 0xCBFE 7 s

end Sys2Proof.Machine
end

