-- ==== Sys2Proof/Machine/System.lean ====
section
/-! DEFINITION. System instructions and illegal opcodes (46_system.md, R500 to R505). -/

namespace Sys2Proof.Machine

/-! ## Shared operations -/

/-- HALT's effect (R501): with IME = 0 and a request pending the halt bug, when `HALT_BUG` is true; otherwise `halted`. -/
def State.halt (s : State) : State :=
  if !s.ime && s.pending && s.cfg.haltBug then { s with haltBug := true } else { s with halted := true }

/-- DI's effect (R503). -/
def State.disableInterrupts (s : State) : State := { s with ime := false, eiPending := false }

/-- EI's effect (R504). -/
def State.enableInterrupts (s : State) : State :=
  if s.cfg.eiDelay then { s with eiPending := true } else { s with ime := true }

/-- `raise IllegalOpcode(op, opAddr)` (R505, R603); the pc is still the address of the opcode. -/
def illegalOpcode (op : Byte) (s : State) : Result := s.raise (.illegalOpcode op s.pc)

/-! ## The instructions -/

/-- NOP (R500) -/
def exec_nop (s : State) : Result := s.run 1 0x00 1 (fun t => t)

/-- HALT (R501) -/
def exec_halt (s : State) : Result := s.run 1 0x76 1 State.halt

/-- STOP (R502) -/
def exec_stop (s : State) : Result := s.raise (.unsupported 0x10 s.pc)

/-- DI (R503) -/
def exec_di (s : State) : Result := s.run 1 0xF3 1 (fun t => t.disableInterrupts)

/-- EI (R504) -/
def exec_ei (s : State) : Result := s.run 1 0xFB 1 (fun t => t.enableInterrupts)

/-- ILLEGAL_D3 (R505) -/
def exec_illegal_d3 (s : State) : Result := illegalOpcode 0xD3 s

/-- ILLEGAL_DB (R505) -/
def exec_illegal_db (s : State) : Result := illegalOpcode 0xDB s

/-- ILLEGAL_DD (R505) -/
def exec_illegal_dd (s : State) : Result := illegalOpcode 0xDD s

/-- ILLEGAL_E3 (R505) -/
def exec_illegal_e3 (s : State) : Result := illegalOpcode 0xE3 s

/-- ILLEGAL_E4 (R505) -/
def exec_illegal_e4 (s : State) : Result := illegalOpcode 0xE4 s

/-- ILLEGAL_EB (R505) -/
def exec_illegal_eb (s : State) : Result := illegalOpcode 0xEB s

/-- ILLEGAL_EC (R505) -/
def exec_illegal_ec (s : State) : Result := illegalOpcode 0xEC s

/-- ILLEGAL_ED (R505) -/
def exec_illegal_ed (s : State) : Result := illegalOpcode 0xED s

/-- ILLEGAL_F4 (R505) -/
def exec_illegal_f4 (s : State) : Result := illegalOpcode 0xF4 s

/-- ILLEGAL_FC (R505) -/
def exec_illegal_fc (s : State) : Result := illegalOpcode 0xFC s

/-- ILLEGAL_FD (R505) -/
def exec_illegal_fd (s : State) : Result := illegalOpcode 0xFD s

end Sys2Proof.Machine
end

