-- ==== Sys2Proof/Machine/Timers.lean ====
section
/-! DEFINITION. The timer subsystem (60_exceptions.md section 5): the divider and the programmable counter, each run once per
call with the cycle cost of the step. -/

namespace Sys2Proof.Machine

/-- `TIMA_FREQ[k]` (R10). -/
def timaFreq (cfg : Config) (sel : BitVec 2) : Nat :=
  match sel.toNat with
  | 0 => cfg.timaFreq0
  | 1 => cfg.timaFreq1
  | 2 => cfg.timaFreq2
  | _ => cfg.timaFreq3

/-- `TIMA_PERIOD(k) = SYSTEM_CLOCK_RATE div TIMA_FREQ[k]` (R10). -/
def timaPeriod (cfg : Config) (sel : BitVec 2) : Nat := cfg.systemClockRate / timaFreq cfg sel

/-- `TAC.SEL`, bits 1:0 of TAC (R69). -/
def tacSel (tac : Byte) : BitVec 2 := tac.extractLsb' 0 2

/-- `TAC.EN`, bit 2 of TAC (R69). -/
def tacEnable (tac : Byte) : Bool := tac.getLsbD 2

/-- The programmable counter counts in this state (R623): TAC enables it, or the enable bit does not gate it. -/
def State.timaRuns (s : State) : Bool := !s.cfg.tacEnableGates || tacEnable s.regTAC

/-- One advance of DIV, with 8-bit wrap-around (R621). -/
def State.tickDIV (s : State) : State := s.write8 addrDIV (s.regDIV + 1)

/-- The divider over `c` cycles (R621): the countdown is set to `DIV_PERIOD` on expiry, so any excess is lost. -/
def State.dividerUpdate (s : State) (c : Nat) : State :=
  let left := s.divCounter - (c : Int)
  if left ≤ 0 then { s with divCounter := (s.cfg.divPeriod : Int) }.tickDIV else { s with divCounter := left }

/-- One advance of TIMA (R623, R624): from 0xFF it is loaded from TMA and the timer request is set in IF, whose other bits are
kept. -/
def State.tickTIMA (s : State) : State :=
  if s.regTIMA = 0xFF then
    let s1 := s.write8 addrTIMA s.regTMA
    s1.write8 addrIF (s1.regIF ||| 0x04)
  else s.write8 addrTIMA (s.regTIMA + 1)

/-- The programmable counter over `c` cycles (R623): the period is taken from TAC at expiry, and any excess is lost. -/
def State.counterUpdate (s : State) (c : Nat) : State :=
  if s.timaRuns then
    let left := s.timaCounter - (c : Int)
    if left ≤ 0 then { s with timaCounter := (timaPeriod s.cfg (tacSel s.regTAC) : Int) }.tickTIMA
    else { s with timaCounter := left }
  else s

/-- `timerUpdate(c)`: the divider, then the programmable counter (R620). -/
def State.timerUpdate (s : State) (c : Nat) : State := (s.dividerUpdate c).counterUpdate c

end Sys2Proof.Machine
end

