-- ==== Sys2Proof/Machine/Block.lean ====
section
/-! DEFINITION. The block around the instruction: fetch, the step of R601 with the timers and the interrupt controller, and
the operations the block offers its host (R629): the call `step()` with its return value and the state it leaves, `runFrame()`,
`reset(BOOT_IMAGE)`, and accesses to memory between steps. -/

namespace Sys2Proof.Machine

/-! ## Fetch (R150) -/

/-- The address of the byte `k` places after the opcode, as the fetches of R150 and R16 reach it: with `haltBug` set the pc is
not advanced past the opcode, so the byte after it is the opcode's own byte again. -/
def State.fetchAddr (s : State) (k : Nat) : Word := if s.haltBug then s.pc + BitVec.ofNat 16 (k - 1) else s.pc + BitVec.ofNat 16 k

/-- The instruction at the pc. A read has no effect (R101, R110), so all three bytes an instruction may have are read. -/
def State.fetchInstr (s : State) : Instr :=
  decode3 (s.read8 (s.fetchAddr 0)) (s.read8 (s.fetchAddr 1)) (s.read8 (s.fetchAddr 2))

/-- A pending EI takes effect at the start of an instruction step (R601). -/
def State.applyPendingEI (s : State) : State :=
  if s.eiPending then { s with ime := true, eiPending := false } else s

/-! ## Interrupts (60_exceptions.md section 3) -/

/-- Source `i` is both enabled in IE and requested in IF (R608 to R610). -/
def sourceReady (ie fl : Byte) (i : Fin 5) : Bool := ie.getLsbD i.val && fl.getLsbD i.val

/-- The source that is taken: the lowest-numbered one that is pending and enabled (R611). -/
def firstReady (ie fl : Byte) : Option (Fin 5) := [0, 1, 2, 3, 4].find? (sourceReady ie fl)

/-- The source `interruptService()` takes in this state, if IME lets any be taken (R610, R612). -/
def State.readySource (s : State) : Option (Fin 5) := if s.ime then firstReady s.regIE s.regIF else none

/-- `interruptService()` (R612) with the accounting of its cost in the step (R601, R615): a cost that is not 0 is counted and
runs the timers. -/
def State.serviceInterrupts (s : State) : State :=
  match s.readySource with
  | none => s
  | some i =>
    let s1 := s.takeInterrupt i
    let d := s1.cfg.intDispatchCycles
    if d > 0 then (s1.charge d).timerUpdate d else s1

/-- The halt wake test (R618). -/
def State.wake (s : State) : State := if s.halted && s.pending then { s with halted := false } else s

/-! ## The step (R601) -/

/-- What a step does after its cost is counted: the timers run with that cost, a halted core may wake, and an interrupt may be
taken (R601). -/
def State.endStep (s : State) (cycles : Nat) : State := (s.timerUpdate cycles).wake.serviceInterrupts

/-- A step of a halted core up to its accounting (R601, R618). -/
def State.idle (s : State) : State := s.charge s.cfg.haltIdleCycles

/-- The step of R601. The cost of an instruction is what its meaning added to `cycleCounter`, which is a natural number without
wrap (R627). -/
def blockStep (s : State) : Result :=
  match s.fault with
  | some f => .fault f
  | none =>
    if s.halted then .next (s.idle.endStep s.cfg.haltIdleCycles)
    else
      let s0 := s.applyPendingEI
      match exec s0.fetchInstr s0 with
      | .next s1 => .next (s1.endStep (s1.cycleCounter - s0.cycleCounter))
      | .fault f => .fault f
      | .refused r => .refused r

/-! ## The host interface (R629) -/

/-- What a call of `step()` returns (R600). -/
inductive StepReturn where
  /-- the step completed and consumed `n` machine cycles -/
  | ok (n : Nat)
  /-- the step did not complete -/
  | fault (f : Fault)
  /-- the model gave the instruction no meaning -/
  | refused (r : Refusal)
  deriving DecidableEq, Repr

/-- The call `step()`: the state it leaves and what it returns (R600 to R602). A faulting step leaves the state as before the
step with `fault` set. -/
def stepCall (s : State) : State × StepReturn :=
  match blockStep s with
  | .next t => (t, .ok (t.cycleCounter - s.cycleCounter))
  | .fault f => (s.recordFault f, .fault f)
  | .refused r => (s, .refused r)

/-- `FRAME_BUDGET = SYSTEM_CLOCK_RATE div 60` (R10). -/
def frameBudget (cfg : Config) : Nat := cfg.systemClockRate / 60

/-- What a call of `runFrame()` returns (R628). -/
inductive FrameReturn where
  | ok (total : Nat)
  | fault (f : Fault)
  | refused (r : Refusal)
  /-- It has not returned yet: the steps looked at have neither reached the budget nor faulted (log entry 8). -/
  | running
  deriving DecidableEq, Repr

/-- The loop of `runFrame()`, looked at for `fuel` steps: the budget is tested only between steps (R628). -/
def frameLoop : Nat → State → State × FrameReturn
  | fuel, s =>
    if frameBudget s.cfg ≤ s.cycleCounter then (s, .ok s.cycleCounter)
    else
      match fuel with
      | 0 => (s, .running)
      | k + 1 =>
        match stepCall s with
        | (t, .ok _) => frameLoop k t
        | (t, .fault f) => (t, .fault f)
        | (t, .refused r) => (t, .refused r)

/-- `runFrame()` (R628), looked at for `fuel` steps: the counter is set to 0, without the last frame's overrun, and steps run
until the budget is reached or one faults. `fuel` bounds the look, not the frame. -/
def runFrame (fuel : Nat) (s : State) : State × FrameReturn := frameLoop fuel { s with cycleCounter := 0 }

/-- `runFrame()` called in `s` returns `r` and leaves `t`, after however many steps that takes (R628). A frame whose steps cost
0 cycles may never return, and then no `r` and `t` are in this relation. -/
def FrameReturns (s t : State) (r : FrameReturn) : Prop := r ≠ .running ∧ ∃ fuel, runFrame fuel s = (t, r)

/-- What `reset(BOOT_IMAGE)` returns (R700). -/
inductive ResetReturn where
  | ok (s : State)
  /-- The image is missing or shorter than `BOOT_LEN`; nothing has happened (R703). -/
  | bootLoadFailure
  deriving DecidableEq, Repr

/-- Bytes written through the contract to consecutive addresses from `a` on, in order. -/
def State.writeList : State → Word → List Byte → State
  | s, _, [] => s
  | s, a, v :: vs => State.writeList (s.write8 a v) (a + 1) vs

/-- The registers, control state and counters that reset sets (R701, R702, R704), over a memory that it does not change
outside the boot region (R706). -/
def State.resetOver (cfg : Config) (m : Store) : State where
  a := 0x01
  flags := Flags.ofByte 0xB0
  b := hi 0x0013
  c := lo 0x0013
  d := hi 0x00D8
  e := lo 0x00D8
  h := hi 0x014D
  l := lo 0x014D
  sp := 0xFFFE
  pc := 0x0000
  ime := false
  halted := false
  haltBug := false
  eiPending := false
  divCounter := (cfg.divPeriod : Int)
  timaCounter := (timaPeriod cfg 0 : Int)
  cycleCounter := 0
  fault := none
  mem := m
  cfg := cfg

/-- `reset(image)` (R700, R703): at least `BOOT_LEN` bytes are needed, and exactly the first `BOOT_LEN` are copied through the
contract, to 0x0000 on. -/
def State.hostReset (s : State) (image : Option (List Byte)) : ResetReturn :=
  match image with
  | none => .bootLoadFailure
  | some bytes =>
    if bytes.length < s.cfg.bootLen then .bootLoadFailure
    else .ok ((State.resetOver s.cfg s.mem).writeList 0x0000 (bytes.take s.cfg.bootLen))

/-- A write by the host or another outside agent, between steps (R115, R629). -/
def State.agentWrite (s : State) (a : Word) (v : Byte) : State := s.write8 a v

/-- A read by the host or another outside agent, between steps (R115, R629). -/
def State.agentRead (s : State) (a : Word) : Byte := s.read8 a

/-- An outside source requests its interrupt by setting its bit of IF between steps (R607, R609). -/
def State.agentRequest (s : State) (i : Fin 5) : State := s.agentWrite addrIF (s.regIF ||| ((1 : Byte) <<< i.val))

/-- The numeric fault codes (R605): 0 is no fault. -/
def faultCode (f : Option Fault) : Nat :=
  match f with
  | none => 0
  | some (.illegalOpcode _ _) => 1
  | some (.unsupported _ _) => 2

/-- The numeric code of BootLoadFailure (R605). -/
def bootLoadFailureCode : Nat := 3

/-! ## Placing one instruction -/

/-- The state with the three bytes of a word in the table's numbering stored at the pc, and ready to run it: not halted, not
faulted, and with the opcode fetch advancing the pc (log entry 3). -/
def State.placeWord (s : State) (nbits w : Nat) : State :=
  let b := tableBytes nbits w
  { ((s.write8 s.pc b.1).write8 (s.pc + 1) b.2.1).write8 (s.pc + 2) b.2.2 with halted := false, haltBug := false, fault := none }

end Sys2Proof.Machine
end

