-- ==== Sys2Proof/Machine/Step.lean ====
section
/-! DEFINITION. One step of the machine as the host reads it. Its parts are in Machine/Block.lean. -/

namespace Sys2Proof.Machine

/-- One call of `step()` (R601): the state a completed step leaves, or the fault it returns. The state a faulting step leaves
is `stepCall`'s (R602). -/
def step (s : State) : Host.Outcome State Fault Refusal := blockStep s

/-- The state whose next step fetches and runs the instruction of the word `w` (log entries 3 and 6). -/
def State.withFetchWord (s : State) (nbits w : Nat) : State := s.placeWord nbits w

end Sys2Proof.Machine
end

