-- ==== Sys2Proof/Machine/Families.lean ====
section
/-! DEFINITION. The families of Instr as functions of their operands: which constructor is `LD r, r'` for given registers, and
so on (R153 to R158). Statements quantify over operands through these; nothing in the machine uses them. -/

namespace Sys2Proof

/-- An operand of `r8` (R153): a register, or index 6, the byte at HL. -/
inductive Loc8 where
  | reg (r : Reg8)
  | atHL
  deriving DecidableEq, Repr

/-- A source operand of R300: a register, the byte at HL, or an immediate byte. -/
inductive Src8 where
  | reg (r : Reg8)
  | atHL
  | imm (n : Byte)
  deriving DecidableEq, Repr

/-- The value of an `r8` operand. -/
def Loc8.value (x : Loc8) (s : Machine.State) : Byte :=
  match x with
  | .reg r => s.reg8 r
  | .atHL => s.atHL

/-- The value of a source operand (R300). -/
def Src8.value (x : Src8) (s : Machine.State) : Byte :=
  match x with
  | .reg r => s.reg8 r
  | .atHL => s.atHL
  | .imm n => n

/-- The cycles of a two-operand instruction with this source, and of a load of a register from it (R201 to R203, R300). -/
def Src8.cycles (x : Src8) : Nat :=
  match x with
  | .reg _ => 1
  | .atHL => 2
  | .imm _ => 2

/-- The cycles of an instruction on this operand that states `r` for a register and `m` for the byte at HL. -/
def Loc8.cycles (x : Loc8) (r m : Nat) : Nat :=
  match x with
  | .reg _ => r
  | .atHL => m

/-- The index of a register in the 3-bit operand field (R153). -/
def Reg8.index (r : Reg8) : BitVec 3 :=
  match r with
  | .b => 0 | .c => 1 | .d => 2 | .e => 3 | .h => 4 | .l => 5 | .a => 7

/-- The index of an `r8` operand; the byte at HL is 6 (R153). -/
def Loc8.index (x : Loc8) : BitVec 3 :=
  match x with
  | .reg r => r.index
  | .atHL => 6

/-- The index of a pair in the field `p` (R154). -/
def Reg16.index (r : Reg16) : BitVec 2 :=
  match r with
  | .bc => 0 | .de => 1 | .hl => 2 | .sp => 3

/-- The index of a pair in the field `p` of PUSH and POP (R155). -/
def RegStk.index (r : RegStk) : BitVec 2 :=
  match r with
  | .bc => 0 | .de => 1 | .hl => 2 | .af => 3

/-- The index of a condition in the field `y[1:0]` (R156). -/
def Cond.index (cc : Cond) : BitVec 2 :=
  match cc with
  | .nz => 0 | .z => 1 | .nc => 2 | .c => 3

/-- The index of an ALU operation in the field `y` (R157). -/
def AluOp.index (op : AluOp) : BitVec 3 :=
  match op with
  | .add => 0 | .adc => 1 | .sub => 2 | .sbc => 3 | .and => 4 | .xor => 5 | .or => 6 | .cp => 7

/-- The index of a CB rotate or shift in the field `y` (R158). -/
def ShiftOp.index (op : ShiftOp) : BitVec 3 :=
  match op with
  | .rlc => 0 | .rrc => 1 | .rl => 2 | .rr => 3 | .sla => 4 | .sra => 5 | .swap => 6 | .srl => 7

/-- An opcode byte from its fields `x`, `y`, `z` (R152). -/
def opXYZ (x : BitVec 2) (y z : BitVec 3) : Byte := x ++ y ++ z

/-- An opcode byte from its fields `x`, `p`, `q`, `z` (R152). -/
def opXPQZ (x p : BitVec 2) (q : BitVec 1) (z : BitVec 3) : Byte := x ++ p ++ q ++ z

/-- The 8-bit halves a write to a pair writes; SP has none (R50). -/
def Reg16.halves (r : Reg16) : List Reg8 :=
  match r with
  | .bc => [.b, .c]
  | .de => [.d, .e]
  | .hl => [.h, .l]
  | .sp => []

/-- The 8-bit general registers a write to a stack pair writes; AF's low half is the flags (R50). -/
def RegStk.halves (r : RegStk) : List Reg8 :=
  match r with
  | .bc => [.b, .c]
  | .de => [.d, .e]
  | .hl => [.h, .l]
  | .af => [.a]

/-- `LD r, r'`, `LD r, (HL)` and `LD r, n8` (R201 to R203). -/
def Instr.ld (dst : Reg8) (src : Src8) : Instr :=
  match dst, src with
  | .b, .reg .b => .ld_b_b | .b, .reg .c => .ld_b_c | .b, .reg .d => .ld_b_d
  | .b, .reg .e => .ld_b_e | .b, .reg .h => .ld_b_h | .b, .reg .l => .ld_b_l
  | .b, .reg .a => .ld_b_a | .b, .atHL => .ld_b_atHL | .b, .imm n => .ld_b_n8 n
  | .c, .reg .b => .ld_c_b | .c, .reg .c => .ld_c_c | .c, .reg .d => .ld_c_d
  | .c, .reg .e => .ld_c_e | .c, .reg .h => .ld_c_h | .c, .reg .l => .ld_c_l
  | .c, .reg .a => .ld_c_a | .c, .atHL => .ld_c_atHL | .c, .imm n => .ld_c_n8 n
  | .d, .reg .b => .ld_d_b | .d, .reg .c => .ld_d_c | .d, .reg .d => .ld_d_d
  | .d, .reg .e => .ld_d_e | .d, .reg .h => .ld_d_h | .d, .reg .l => .ld_d_l
  | .d, .reg .a => .ld_d_a | .d, .atHL => .ld_d_atHL | .d, .imm n => .ld_d_n8 n
  | .e, .reg .b => .ld_e_b | .e, .reg .c => .ld_e_c | .e, .reg .d => .ld_e_d
  | .e, .reg .e => .ld_e_e | .e, .reg .h => .ld_e_h | .e, .reg .l => .ld_e_l
  | .e, .reg .a => .ld_e_a | .e, .atHL => .ld_e_atHL | .e, .imm n => .ld_e_n8 n
  | .h, .reg .b => .ld_h_b | .h, .reg .c => .ld_h_c | .h, .reg .d => .ld_h_d
  | .h, .reg .e => .ld_h_e | .h, .reg .h => .ld_h_h | .h, .reg .l => .ld_h_l
  | .h, .reg .a => .ld_h_a | .h, .atHL => .ld_h_atHL | .h, .imm n => .ld_h_n8 n
  | .l, .reg .b => .ld_l_b | .l, .reg .c => .ld_l_c | .l, .reg .d => .ld_l_d
  | .l, .reg .e => .ld_l_e | .l, .reg .h => .ld_l_h | .l, .reg .l => .ld_l_l
  | .l, .reg .a => .ld_l_a | .l, .atHL => .ld_l_atHL | .l, .imm n => .ld_l_n8 n
  | .a, .reg .b => .ld_a_b | .a, .reg .c => .ld_a_c | .a, .reg .d => .ld_a_d
  | .a, .reg .e => .ld_a_e | .a, .reg .h => .ld_a_h | .a, .reg .l => .ld_a_l
  | .a, .reg .a => .ld_a_a | .a, .atHL => .ld_a_atHL | .a, .imm n => .ld_a_n8 n

/-- `LD (HL), r` (R204). -/
def Instr.store (r : Reg8) : Instr :=
  match r with
  | .b => .ld_atHL_b | .c => .ld_atHL_c | .d => .ld_atHL_d | .e => .ld_atHL_e
  | .h => .ld_atHL_h | .l => .ld_atHL_l | .a => .ld_atHL_a

/-- The two-operand operations (R300 to R326). -/
def Instr.alu (op : AluOp) (src : Src8) : Instr :=
  match op, src with
  | .add, .reg .b => .add_a_b | .add, .reg .c => .add_a_c | .add, .reg .d => .add_a_d
  | .add, .reg .e => .add_a_e | .add, .reg .h => .add_a_h | .add, .reg .l => .add_a_l
  | .add, .reg .a => .add_a_a | .add, .atHL => .add_a_atHL | .add, .imm n => .add_a_n8 n
  | .adc, .reg .b => .adc_a_b | .adc, .reg .c => .adc_a_c | .adc, .reg .d => .adc_a_d
  | .adc, .reg .e => .adc_a_e | .adc, .reg .h => .adc_a_h | .adc, .reg .l => .adc_a_l
  | .adc, .reg .a => .adc_a_a | .adc, .atHL => .adc_a_atHL | .adc, .imm n => .adc_a_n8 n
  | .sub, .reg .b => .sub_b | .sub, .reg .c => .sub_c | .sub, .reg .d => .sub_d
  | .sub, .reg .e => .sub_e | .sub, .reg .h => .sub_h | .sub, .reg .l => .sub_l
  | .sub, .reg .a => .sub_a | .sub, .atHL => .sub_atHL | .sub, .imm n => .sub_n8 n
  | .sbc, .reg .b => .sbc_a_b | .sbc, .reg .c => .sbc_a_c | .sbc, .reg .d => .sbc_a_d
  | .sbc, .reg .e => .sbc_a_e | .sbc, .reg .h => .sbc_a_h | .sbc, .reg .l => .sbc_a_l
  | .sbc, .reg .a => .sbc_a_a | .sbc, .atHL => .sbc_a_atHL | .sbc, .imm n => .sbc_a_n8 n
  | .and, .reg .b => .and_b | .and, .reg .c => .and_c | .and, .reg .d => .and_d
  | .and, .reg .e => .and_e | .and, .reg .h => .and_h | .and, .reg .l => .and_l
  | .and, .reg .a => .and_a | .and, .atHL => .and_atHL | .and, .imm n => .and_n8 n
  | .xor, .reg .b => .xor_b | .xor, .reg .c => .xor_c | .xor, .reg .d => .xor_d
  | .xor, .reg .e => .xor_e | .xor, .reg .h => .xor_h | .xor, .reg .l => .xor_l
  | .xor, .reg .a => .xor_a | .xor, .atHL => .xor_atHL | .xor, .imm n => .xor_n8 n
  | .or, .reg .b => .or_b | .or, .reg .c => .or_c | .or, .reg .d => .or_d
  | .or, .reg .e => .or_e | .or, .reg .h => .or_h | .or, .reg .l => .or_l
  | .or, .reg .a => .or_a | .or, .atHL => .or_atHL | .or, .imm n => .or_n8 n
  | .cp, .reg .b => .cp_b | .cp, .reg .c => .cp_c | .cp, .reg .d => .cp_d
  | .cp, .reg .e => .cp_e | .cp, .reg .h => .cp_h | .cp, .reg .l => .cp_l
  | .cp, .reg .a => .cp_a | .cp, .atHL => .cp_atHL | .cp, .imm n => .cp_n8 n

/-- 8-bit INC (R327, R328). -/
def Instr.inc8 (x : Loc8) : Instr :=
  match x with
  | .reg .b => .inc_b | .reg .c => .inc_c | .reg .d => .inc_d | .reg .e => .inc_e
  | .reg .h => .inc_h | .reg .l => .inc_l | .atHL => .inc_atHL | .reg .a => .inc_a

/-- 8-bit DEC (R329, R330). -/
def Instr.dec8 (x : Loc8) : Instr :=
  match x with
  | .reg .b => .dec_b | .reg .c => .dec_c | .reg .d => .dec_d | .reg .e => .dec_e
  | .reg .h => .dec_h | .reg .l => .dec_l | .atHL => .dec_atHL | .reg .a => .dec_a

/-- The CB rotates, shifts and SWAP (R405 to R420). -/
def Instr.shift (op : ShiftOp) (x : Loc8) : Instr :=
  match op, x with
  | .rlc, .reg .b => .rlc_b | .rlc, .reg .c => .rlc_c | .rlc, .reg .d => .rlc_d
  | .rlc, .reg .e => .rlc_e | .rlc, .reg .h => .rlc_h | .rlc, .reg .l => .rlc_l
  | .rlc, .atHL => .rlc_atHL | .rlc, .reg .a => .rlc_a | .rrc, .reg .b => .rrc_b
  | .rrc, .reg .c => .rrc_c | .rrc, .reg .d => .rrc_d | .rrc, .reg .e => .rrc_e
  | .rrc, .reg .h => .rrc_h | .rrc, .reg .l => .rrc_l | .rrc, .atHL => .rrc_atHL
  | .rrc, .reg .a => .rrc_a | .rl, .reg .b => .rl_b | .rl, .reg .c => .rl_c
  | .rl, .reg .d => .rl_d | .rl, .reg .e => .rl_e | .rl, .reg .h => .rl_h
  | .rl, .reg .l => .rl_l | .rl, .atHL => .rl_atHL | .rl, .reg .a => .rl_a
  | .rr, .reg .b => .rr_b | .rr, .reg .c => .rr_c | .rr, .reg .d => .rr_d
  | .rr, .reg .e => .rr_e | .rr, .reg .h => .rr_h | .rr, .reg .l => .rr_l
  | .rr, .atHL => .rr_atHL | .rr, .reg .a => .rr_a | .sla, .reg .b => .sla_b
  | .sla, .reg .c => .sla_c | .sla, .reg .d => .sla_d | .sla, .reg .e => .sla_e
  | .sla, .reg .h => .sla_h | .sla, .reg .l => .sla_l | .sla, .atHL => .sla_atHL
  | .sla, .reg .a => .sla_a | .sra, .reg .b => .sra_b | .sra, .reg .c => .sra_c
  | .sra, .reg .d => .sra_d | .sra, .reg .e => .sra_e | .sra, .reg .h => .sra_h
  | .sra, .reg .l => .sra_l | .sra, .atHL => .sra_atHL | .sra, .reg .a => .sra_a
  | .swap, .reg .b => .swap_b | .swap, .reg .c => .swap_c | .swap, .reg .d => .swap_d
  | .swap, .reg .e => .swap_e | .swap, .reg .h => .swap_h | .swap, .reg .l => .swap_l
  | .swap, .atHL => .swap_atHL | .swap, .reg .a => .swap_a | .srl, .reg .b => .srl_b
  | .srl, .reg .c => .srl_c | .srl, .reg .d => .srl_d | .srl, .reg .e => .srl_e
  | .srl, .reg .h => .srl_h | .srl, .reg .l => .srl_l | .srl, .atHL => .srl_atHL
  | .srl, .reg .a => .srl_a

/-- BIT 0 -/
def bitRow0 (x : Loc8) : Instr :=
  match x with
  | .reg .b => .bit_0_b | .reg .c => .bit_0_c | .reg .d => .bit_0_d | .reg .e => .bit_0_e
  | .reg .h => .bit_0_h | .reg .l => .bit_0_l | .atHL => .bit_0_atHL | .reg .a => .bit_0_a

/-- BIT 1 -/
def bitRow1 (x : Loc8) : Instr :=
  match x with
  | .reg .b => .bit_1_b | .reg .c => .bit_1_c | .reg .d => .bit_1_d | .reg .e => .bit_1_e
  | .reg .h => .bit_1_h | .reg .l => .bit_1_l | .atHL => .bit_1_atHL | .reg .a => .bit_1_a

/-- BIT 2 -/
def bitRow2 (x : Loc8) : Instr :=
  match x with
  | .reg .b => .bit_2_b | .reg .c => .bit_2_c | .reg .d => .bit_2_d | .reg .e => .bit_2_e
  | .reg .h => .bit_2_h | .reg .l => .bit_2_l | .atHL => .bit_2_atHL | .reg .a => .bit_2_a

/-- BIT 3 -/
def bitRow3 (x : Loc8) : Instr :=
  match x with
  | .reg .b => .bit_3_b | .reg .c => .bit_3_c | .reg .d => .bit_3_d | .reg .e => .bit_3_e
  | .reg .h => .bit_3_h | .reg .l => .bit_3_l | .atHL => .bit_3_atHL | .reg .a => .bit_3_a

/-- BIT 4 -/
def bitRow4 (x : Loc8) : Instr :=
  match x with
  | .reg .b => .bit_4_b | .reg .c => .bit_4_c | .reg .d => .bit_4_d | .reg .e => .bit_4_e
  | .reg .h => .bit_4_h | .reg .l => .bit_4_l | .atHL => .bit_4_atHL | .reg .a => .bit_4_a

/-- BIT 5 -/
def bitRow5 (x : Loc8) : Instr :=
  match x with
  | .reg .b => .bit_5_b | .reg .c => .bit_5_c | .reg .d => .bit_5_d | .reg .e => .bit_5_e
  | .reg .h => .bit_5_h | .reg .l => .bit_5_l | .atHL => .bit_5_atHL | .reg .a => .bit_5_a

/-- BIT 6 -/
def bitRow6 (x : Loc8) : Instr :=
  match x with
  | .reg .b => .bit_6_b | .reg .c => .bit_6_c | .reg .d => .bit_6_d | .reg .e => .bit_6_e
  | .reg .h => .bit_6_h | .reg .l => .bit_6_l | .atHL => .bit_6_atHL | .reg .a => .bit_6_a

/-- BIT 7 -/
def bitRow7 (x : Loc8) : Instr :=
  match x with
  | .reg .b => .bit_7_b | .reg .c => .bit_7_c | .reg .d => .bit_7_d | .reg .e => .bit_7_e
  | .reg .h => .bit_7_h | .reg .l => .bit_7_l | .atHL => .bit_7_atHL | .reg .a => .bit_7_a

/-- BIT b (R421, R422). -/
def Instr.bit (b : Fin 8) (x : Loc8) : Instr :=
  (#v[bitRow0, bitRow1, bitRow2, bitRow3, bitRow4, bitRow5, bitRow6, bitRow7] : Vector (Loc8 → Instr) 8).get b x

/-- RES 0 -/
def resRow0 (x : Loc8) : Instr :=
  match x with
  | .reg .b => .res_0_b | .reg .c => .res_0_c | .reg .d => .res_0_d | .reg .e => .res_0_e
  | .reg .h => .res_0_h | .reg .l => .res_0_l | .atHL => .res_0_atHL | .reg .a => .res_0_a

/-- RES 1 -/
def resRow1 (x : Loc8) : Instr :=
  match x with
  | .reg .b => .res_1_b | .reg .c => .res_1_c | .reg .d => .res_1_d | .reg .e => .res_1_e
  | .reg .h => .res_1_h | .reg .l => .res_1_l | .atHL => .res_1_atHL | .reg .a => .res_1_a

/-- RES 2 -/
def resRow2 (x : Loc8) : Instr :=
  match x with
  | .reg .b => .res_2_b | .reg .c => .res_2_c | .reg .d => .res_2_d | .reg .e => .res_2_e
  | .reg .h => .res_2_h | .reg .l => .res_2_l | .atHL => .res_2_atHL | .reg .a => .res_2_a

/-- RES 3 -/
def resRow3 (x : Loc8) : Instr :=
  match x with
  | .reg .b => .res_3_b | .reg .c => .res_3_c | .reg .d => .res_3_d | .reg .e => .res_3_e
  | .reg .h => .res_3_h | .reg .l => .res_3_l | .atHL => .res_3_atHL | .reg .a => .res_3_a

/-- RES 4 -/
def resRow4 (x : Loc8) : Instr :=
  match x with
  | .reg .b => .res_4_b | .reg .c => .res_4_c | .reg .d => .res_4_d | .reg .e => .res_4_e
  | .reg .h => .res_4_h | .reg .l => .res_4_l | .atHL => .res_4_atHL | .reg .a => .res_4_a

/-- RES 5 -/
def resRow5 (x : Loc8) : Instr :=
  match x with
  | .reg .b => .res_5_b | .reg .c => .res_5_c | .reg .d => .res_5_d | .reg .e => .res_5_e
  | .reg .h => .res_5_h | .reg .l => .res_5_l | .atHL => .res_5_atHL | .reg .a => .res_5_a

/-- RES 6 -/
def resRow6 (x : Loc8) : Instr :=
  match x with
  | .reg .b => .res_6_b | .reg .c => .res_6_c | .reg .d => .res_6_d | .reg .e => .res_6_e
  | .reg .h => .res_6_h | .reg .l => .res_6_l | .atHL => .res_6_atHL | .reg .a => .res_6_a

/-- RES 7 -/
def resRow7 (x : Loc8) : Instr :=
  match x with
  | .reg .b => .res_7_b | .reg .c => .res_7_c | .reg .d => .res_7_d | .reg .e => .res_7_e
  | .reg .h => .res_7_h | .reg .l => .res_7_l | .atHL => .res_7_atHL | .reg .a => .res_7_a

/-- RES b (R423, R424). -/
def Instr.res (b : Fin 8) (x : Loc8) : Instr :=
  (#v[resRow0, resRow1, resRow2, resRow3, resRow4, resRow5, resRow6, resRow7] : Vector (Loc8 → Instr) 8).get b x

/-- SET 0 -/
def setRow0 (x : Loc8) : Instr :=
  match x with
  | .reg .b => .set_0_b | .reg .c => .set_0_c | .reg .d => .set_0_d | .reg .e => .set_0_e
  | .reg .h => .set_0_h | .reg .l => .set_0_l | .atHL => .set_0_atHL | .reg .a => .set_0_a

/-- SET 1 -/
def setRow1 (x : Loc8) : Instr :=
  match x with
  | .reg .b => .set_1_b | .reg .c => .set_1_c | .reg .d => .set_1_d | .reg .e => .set_1_e
  | .reg .h => .set_1_h | .reg .l => .set_1_l | .atHL => .set_1_atHL | .reg .a => .set_1_a

/-- SET 2 -/
def setRow2 (x : Loc8) : Instr :=
  match x with
  | .reg .b => .set_2_b | .reg .c => .set_2_c | .reg .d => .set_2_d | .reg .e => .set_2_e
  | .reg .h => .set_2_h | .reg .l => .set_2_l | .atHL => .set_2_atHL | .reg .a => .set_2_a

/-- SET 3 -/
def setRow3 (x : Loc8) : Instr :=
  match x with
  | .reg .b => .set_3_b | .reg .c => .set_3_c | .reg .d => .set_3_d | .reg .e => .set_3_e
  | .reg .h => .set_3_h | .reg .l => .set_3_l | .atHL => .set_3_atHL | .reg .a => .set_3_a

/-- SET 4 -/
def setRow4 (x : Loc8) : Instr :=
  match x with
  | .reg .b => .set_4_b | .reg .c => .set_4_c | .reg .d => .set_4_d | .reg .e => .set_4_e
  | .reg .h => .set_4_h | .reg .l => .set_4_l | .atHL => .set_4_atHL | .reg .a => .set_4_a

/-- SET 5 -/
def setRow5 (x : Loc8) : Instr :=
  match x with
  | .reg .b => .set_5_b | .reg .c => .set_5_c | .reg .d => .set_5_d | .reg .e => .set_5_e
  | .reg .h => .set_5_h | .reg .l => .set_5_l | .atHL => .set_5_atHL | .reg .a => .set_5_a

/-- SET 6 -/
def setRow6 (x : Loc8) : Instr :=
  match x with
  | .reg .b => .set_6_b | .reg .c => .set_6_c | .reg .d => .set_6_d | .reg .e => .set_6_e
  | .reg .h => .set_6_h | .reg .l => .set_6_l | .atHL => .set_6_atHL | .reg .a => .set_6_a

/-- SET 7 -/
def setRow7 (x : Loc8) : Instr :=
  match x with
  | .reg .b => .set_7_b | .reg .c => .set_7_c | .reg .d => .set_7_d | .reg .e => .set_7_e
  | .reg .h => .set_7_h | .reg .l => .set_7_l | .atHL => .set_7_atHL | .reg .a => .set_7_a

/-- SET b (R425, R426). -/
def Instr.set (b : Fin 8) (x : Loc8) : Instr :=
  (#v[setRow0, setRow1, setRow2, setRow3, setRow4, setRow5, setRow6, setRow7] : Vector (Loc8 → Instr) 8).get b x

/-- `LD rr, n16` (R251). -/
def Instr.ldPair (r : Reg16) (v : Word) : Instr :=
  match r with
  | .bc => .ld_bc_n16 v | .de => .ld_de_n16 v | .hl => .ld_hl_n16 v | .sp => .ld_sp_n16 v

/-- `PUSH rr` (R255). -/
def Instr.push (r : RegStk) : Instr :=
  match r with
  | .bc => .push_bc | .de => .push_de | .hl => .push_hl | .af => .push_af

/-- `POP rr` (R256, R257). -/
def Instr.pop (r : RegStk) : Instr :=
  match r with
  | .bc => .pop_bc | .de => .pop_de | .hl => .pop_hl | .af => .pop_af

/-- `ADD HL, rr` (R351). -/
def Instr.addHL (r : Reg16) : Instr :=
  match r with
  | .bc => .add_hl_bc | .de => .add_hl_de | .hl => .add_hl_hl | .sp => .add_hl_sp

/-- `INC rr` (R352). -/
def Instr.inc16 (r : Reg16) : Instr :=
  match r with
  | .bc => .inc_bc | .de => .inc_de | .hl => .inc_hl | .sp => .inc_sp

/-- `DEC rr` (R353). -/
def Instr.dec16 (r : Reg16) : Instr :=
  match r with
  | .bc => .dec_bc | .de => .dec_de | .hl => .dec_hl | .sp => .dec_sp

/-- `JP cc, a16` (R452). -/
def Instr.jp (cc : Cond) (a : Word) : Instr :=
  match cc with
  | .nz => .jp_nz_a16 a | .z => .jp_z_a16 a | .nc => .jp_nc_a16 a | .c => .jp_c_a16 a

/-- `JR cc, e8` (R455). -/
def Instr.jr (cc : Cond) (e : Byte) : Instr :=
  match cc with
  | .nz => .jr_nz_e8 e | .z => .jr_z_e8 e | .nc => .jr_nc_e8 e | .c => .jr_c_e8 e

/-- `CALL cc, a16` (R457). -/
def Instr.callCC (cc : Cond) (a : Word) : Instr :=
  match cc with
  | .nz => .call_nz_a16 a | .z => .call_z_a16 a | .nc => .call_nc_a16 a | .c => .call_c_a16 a

/-- `RET cc` (R459). -/
def Instr.retCC (cc : Cond) : Instr :=
  match cc with
  | .nz => .ret_nz | .z => .ret_z | .nc => .ret_nc | .c => .ret_c

/-- `RST t` with `t = 8 * k` (R461). -/
def Instr.rst (k : Fin 8) : Instr :=
  (#v[.rst_00, .rst_08, .rst_10, .rst_18, .rst_20, .rst_28, .rst_30, .rst_38] : Vector Instr 8).get k

/-- The eleven unassigned opcodes, each with its row (R166). -/
def illegalRows : List (Byte × Instr) :=
  [(0xD3, .illegal_d3), (0xDB, .illegal_db), (0xDD, .illegal_dd), (0xE3, .illegal_e3),
   (0xE4, .illegal_e4), (0xEB, .illegal_eb), (0xEC, .illegal_ec), (0xED, .illegal_ed),
   (0xF4, .illegal_f4), (0xFC, .illegal_fc), (0xFD, .illegal_fd)]

end Sys2Proof
end

