-- ==== Sys2Proof/Safety.lean ====
section
/-! DEFINITION. The terms in which statements speak of a run: what an instruction leaves unchanged, what it means that it
retires, and the invariant of the block. -/

namespace Sys2Proof.Machine

/-! ## Frames -/

/-- Every 8-bit register but those listed holds what it held. -/
def SameRegsBut (s t : State) (rs : List Reg8) : Prop := ∀ r, r ∉ rs → t.reg8 r = s.reg8 r

/-- Every 8-bit register holds what it held. -/
def SameRegs (s t : State) : Prop := SameRegsBut s t []

/-- The memory contract of R101: a write changes at most the byte it addresses. FlatRAM meets it; a platform may not. -/
def MeetsContract (bus : MemoryBus) : Prop :=
  ∀ (m : Store) (a b : Word) (v : Byte), b ≠ a → (m.write bus a v).read bus b = m.read bus b

/-- On a bus that meets the contract, every byte of memory but those at the listed addresses reads as it did. -/
def SameMemBut (s t : State) (as : List Word) : Prop :=
  MeetsContract s.cfg.memoryBus → ∀ a, a ∉ as → t.read8 a = s.read8 a

/-- On any bus: memory is untouched, and every byte reads as it did. -/
def SameMem (s t : State) : Prop := t.mem = s.mem ∧ ∀ a, t.read8 a = s.read8 a

/-- On FlatRAM the byte at `a` reads as `v`: R110 asks a claim about a stored byte to state its bus. -/
def Holds (s t : State) (a : Word) (v : Byte) : Prop := s.cfg.memoryBus = .flatRAM → t.read8 a = v

/-- The state after the listed byte writes, in their order. -/
def State.writes (s : State) (ws : List (Word × Byte)) : State := ws.foldl (fun t w => t.write8 w.1 w.2) s

/-- On any bus, memory is what exactly the listed byte writes make of it, in their order; and on a bus that meets the contract
every byte they do not address reads as it did. -/
def Stores (s t : State) (ws : List (Word × Byte)) : Prop :=
  t.mem = (s.writes ws).mem ∧ SameMemBut s t (ws.map Prod.fst)

/-- The interrupt and halt bits are unchanged. -/
def SameControl (s t : State) : Prop :=
  t.ime = s.ime ∧ t.eiPending = s.eiPending ∧ t.halted = s.halted

/-- What no instruction touches: the two countdowns, the fault and the parameters. -/
def SameBlock (s t : State) : Prop :=
  t.divCounter = s.divCounter ∧ t.timaCounter = s.timaCounter ∧ t.fault = s.fault ∧ t.cfg = s.cfg

/-- Nothing but the pc and the counting of the instruction is different outside the operands a statement names. -/
def Quiet (s t : State) : Prop := SameControl s t ∧ SameBlock s t

/-- The registers, the flags, SP and memory are unchanged. -/
def SameData (s t : State) : Prop := SameRegs s t ∧ t.flags = s.flags ∧ t.sp = s.sp ∧ SameMem s t

/-- An operand of `r8` holds `v` and nothing else of the registers and memory has changed; the byte at HL is the one HL
addressed before, written once. -/
def OnlyLoc (s t : State) (x : Loc8) (v : Byte) : Prop :=
  match x with
  | .reg r => t.reg8 r = v ∧ SameRegsBut s t [r] ∧ SameMem s t
  | .atHL => Stores s t [(s.hl, v)] ∧ Holds s t s.hl v ∧ SameRegs s t

/-! ## Retiring -/

/-- The cost of the instruction is counted, and the halt bug, if it was armed, is consumed (R150, R627). -/
def Counts (i : Instr) (s t : State) (cycles : Nat) : Prop :=
  t.haltBug = false ∧ t.cycleCounter = s.cycleCounter + costOf s.cfg i.opcode cycles

/-- The instruction ends with the pc past its bytes and its cost counted (R171, R627). -/
def Retires (i : Instr) (s t : State) (cycles : Nat) : Prop := t.pc = s.pcAfter i.length ∧ Counts i s t cycles

/-- As `Retires`, for a conditional transfer that is not taken. -/
def RetiresNotTaken (i : Instr) (s t : State) (cycles : Nat) : Prop :=
  t.pc = s.pcAfter i.length ∧ t.haltBug = false ∧ t.cycleCounter = s.cycleCounter + costNotTaken s.cfg i.opcode cycles

/-! ## Conditions, arithmetic and shifts as the rules give them, on numbers -/

/-- The condition of R156 and R450 holds. -/
def CondHolds (s : State) (cc : Cond) : Prop :=
  match cc with
  | .nz => s.flags.z = false
  | .z => s.flags.z = true
  | .nc => s.flags.c = false
  | .c => s.flags.c = true

/-- The address `e8` away from `p`, on integers modulo 65536 (R161). -/
def IsDisplaced (q p : Word) (e : Byte) : Prop := (q.toNat : Int) = ((p.toNat : Int) + e.toInt) % 65536

/-- The result of a rotate or shift of `v` with carry-in `c`, as arithmetic on numbers (R401 to R420). -/
def shiftNat (op : ShiftOp) (v c : Nat) : Nat :=
  match op with
  | .rlc => (2 * v + v / 128) % 256
  | .rrc => v / 2 + 128 * (v % 2)
  | .rl => (2 * v + c) % 256
  | .rr => v / 2 + 128 * c
  | .sla => 2 * v % 256
  | .sra => v / 2 + (if 128 ≤ v then 128 else 0)
  | .swap => 16 * (v % 16) + v / 16
  | .srl => v / 2

/-- The bit of `v` that a rotate or shift moves out is 1; SWAP moves none out (R401 to R420). -/
def ShiftsOutOne (op : ShiftOp) (v : Nat) : Prop :=
  match op with
  | .rlc | .rl | .sla => 128 ≤ v
  | .rrc | .rr | .sra | .srl => v % 2 = 1
  | .swap => False

/-! ## Frames of the host -/

/-- The state after `k` calls of `step()` that all return Ok; none if one of them does not. -/
def okCalls : Nat → State → Option State
  | 0, s => some s
  | k + 1, s =>
    match stepCall s with
    | (t, .ok _) => okCalls k t
    | _ => none

/-- `k` calls of `step()` lead from `s` to `t`, all returning Ok, and the budget is not reached before any of them. -/
def RunsBelow (budget k : Nat) (s t : State) : Prop :=
  okCalls k s = some t ∧ ∀ j < k, ∃ u, okCalls j s = some u ∧ u.cycleCounter < budget

/-! ## The invariant of the block -/

/-- The countdowns are between 1 and their periods (R62, R63), the second one when every period is at least 1. -/
def CountdownsInRange (s : State) : Prop :=
  0 < s.divCounter ∧ s.divCounter ≤ (s.cfg.divPeriod : Int) ∧
  ((∀ sel, 0 < timaPeriod s.cfg sel) → 0 < s.timaCounter) ∧
  (∃ sel, s.timaCounter ≤ (timaPeriod s.cfg sel : Int))

/-- No EI is pending unless EI is delayed (R61), none is while the core is halted (R618), and the halt bug is armed only with
interrupts off and the core running (R501, R613). -/
def ControlBitsAgree (s : State) : Prop :=
  (s.cfg.eiDelay = false → s.eiPending = false) ∧
  (s.halted = true → s.eiPending = false) ∧
  (s.haltBug = true → s.ime = false ∧ s.eiPending = false ∧ s.halted = false)

/-- The invariant: well-formed parameters, memory in canonical form, countdowns in range, control bits that agree. -/
def Inv (s : State) : Prop :=
  s.cfg.wf = true ∧ s.mem.wf = true ∧ CountdownsInRange s ∧ ControlBitsAgree s

/-- Every step costs at least one cycle: the costs are the rules' own, and the two cost parameters that may be chosen are
positive. -/
def CostsPositive (cfg : Config) : Prop :=
  cfg.cycleCost = [] ∧ 0 < cfg.haltIdleCycles ∧ 0 < cfg.jrCcNotTakenCycles

/-- The largest cost of one step when the costs are the rules' own: CALL's 6, an idle step or a JR not taken, and the cost of
an interrupt entry. -/
def maxStepCost (cfg : Config) : Nat :=
  max 6 (max cfg.haltIdleCycles cfg.jrCcNotTakenCycles) + cfg.intDispatchCycles

end Sys2Proof.Machine
end

