-- ==== Sys2Proof/Certificates/Slice0/Obligations.lean ====
section
/-! DEFINITION. The statements for the provers. Each docstring says what the statement states and which rules of spec/ it
formalises. A statement about stored bytes says which bus it is about (R110; log entry 2): `Stores` says on any bus which byte
writes are made and in which order, and on a bus that meets the contract of R101 that no other byte changes; `Holds` says on
FlatRAM what a byte then reads as. The parameters are in the state, so each statement is one for all their values. -/

open Sys2Proof Sys2Proof.Machine

/-- Words written out bit by bit from the encodings of the rules decode to the instruction they stand for: LD B,C; LD
A,n8; LD HL,n16; SBC A,(HL); ADD HL,SP; RLCA; BIT 7,H; JR NZ,e8; RST 0x38; HALT; the illegal byte 0xD3.
(30_encoding.md R153, 30_encoding.md R164, 30_encoding.md R165) -/
def Obligations.WordsOfEachFamilyDecode : Prop :=
  decode [0b01000001] = .ok (.ld_b_c, []) ∧
  decode [0b00111110, 0x5C] = .ok (.ld_a_n8 0x5C, []) ∧
  decode [0b00100001, 0x00, 0xC0] = .ok (.ld_hl_n16 0xC000, []) ∧
  decode [0b10011110] = .ok (.sbc_a_atHL, []) ∧
  decode [0b00111001] = .ok (.add_hl_sp, []) ∧
  decode [0b00000111] = .ok (.rlca, []) ∧
  decode [0b11001011, 0b01111100] = .ok (.bit_7_h, []) ∧
  decode [0b00100000, 0xFB] = .ok (.jr_nz_e8 0xFB, []) ∧
  decode [0b11111111] = .ok (.rst_38, []) ∧
  decode [0b01110110] = .ok (.halt, []) ∧
  decode [0b11010011] = .ok (.illegal_d3, [])

/-- For every instruction, with every operand at every value, decoding its encoding followed by any bytes gives the
instruction and those bytes. (30_encoding.md R150, 30_encoding.md R151, 30_encoding.md R164, 30_encoding.md R165) -/
def Obligations.DecodeOfEncodeIsTheInstruction : Prop :=
  ∀ (i : Instr) (rest : List Byte), decode (encode i ++ rest) = .ok (i, rest)

/-- For any three bytes the first of which is not STOP (whose second byte is not decoded), encoding the decoded
instruction gives the first bytes again, as many as the first byte says. (30_encoding.md R151, 30_encoding.md R164,
30_encoding.md R165, 46_system.md R502) -/
def Obligations.EncodeOfDecodeIsTheBytes : Prop :=
  ∀ b0 b1 b2 : Byte, b0 ≠ 0x10 → encode (decode3 b0 b1 b2) = [b0, b1, b2].take (lengthOf b0)

/-- Every instruction encodes to one, two or three bytes, and the number is a function of the first byte alone.
(30_encoding.md R151) -/
def Obligations.FirstByteGivesTheLength : Prop :=
  ∀ i : Instr, ∃ (b0 : Byte) (rest : List Byte), encode i = b0 :: rest ∧ i.length = lengthOf b0 ∧ 1 ≤ i.length ∧ i.length ≤ 3

/-- Three bytes decode to a row that is no instruction exactly when the first is 0xD3, 0xDB, 0xDD, 0xE3, 0xE4, 0xEB, 0xEC,
0xED, 0xF4, 0xFC or 0xFD; no second byte after 0xCB does. (30_encoding.md R166, 30_encoding.md R163) -/
def Obligations.OnlyElevenFirstBytesAreIllegal : Prop :=
  ∀ b0 b1 b2 : Byte, (decode3 b0 b1 b2).wellFormed = false ↔
    b0 ∈ ([0xD3, 0xDB, 0xDD, 0xE3, 0xE4, 0xEB, 0xEC, 0xED, 0xF4, 0xFC, 0xFD] : List Byte)

/-- When the core is neither faulted nor halted and the bytes at the pc decode to an instruction, the step is exec of it,
after a pending EI has taken effect, then the timers with the cost exec counted, then halted becomes 0 if it is 1 and
IE & IF & 0x1F is not 0, then interrupt service; a fault of exec is the fault of the step. With the halt bug armed the
byte after the opcode is the opcode byte itself. (30_encoding.md R150, 60_exceptions.md R601, 60_exceptions.md R616,
60_exceptions.md R618, 60_exceptions.md R625) -/
def Obligations.StepRunsTheInstructionAtThePc : Prop :=
  ∀ (s : State) (i : Instr) (rest : List Byte), s.fault = none → s.halted = false →
    decode (if s.haltBug then [s.read8 s.pc, s.read8 s.pc, s.read8 (s.pc + 1)]
      else [s.read8 s.pc, s.read8 (s.pc + 1), s.read8 (s.pc + 2)]) = .ok (i, rest) →
    let s0 := if s.eiPending then { s with ime := true, eiPending := false } else s
    step s = match exec i s0 with
      | .next t =>
        let u := t.timerUpdate (t.cycleCounter - s.cycleCounter)
        let w := if u.halted = true ∧ u.read8 0xFFFF &&& u.read8 0xFF0F &&& 0x1F ≠ 0 then { u with halted := false } else u
        .next w.serviceInterrupts
      | .fault f => .fault f
      | .refused r => .refused r

/-- For every state, step answers a next state or a fault: no instruction is left without a meaning. (30_encoding.md R167,
60_exceptions.md R600) -/
def Obligations.NoStepIsRefused : Prop :=
  ∀ s : State, (∃ t, step s = .next t) ∨ (∃ f, step s = .fault f)

/-- A step answers a fault exactly when the core is faulted already (the same fault), or it is running and the byte at the
pc is one of the eleven unassigned opcodes (IllegalOpcode with that byte and the pc) or 0x10 (Unsupported with 0x10
and the pc); the state such a call leaves is the state before it with the fault recorded. (R603, R604) -/
def Obligations.StepFaultsExactlyOnIllegalAndStop : Prop :=
  ∀ (s : State) (f : Fault), (step s = .fault f → (stepCall s).1 = { s with fault := some f }) ∧ (step s = .fault f ↔
    s.fault = some f ∨
    (s.fault = none ∧ s.halted = false ∧
      ((s.read8 s.pc ∈ ([0xD3, 0xDB, 0xDD, 0xE3, 0xE4, 0xEB, 0xEC, 0xED, 0xF4, 0xFC, 0xFD] : List Byte) ∧
          f = .illegalOpcode (s.read8 s.pc) s.pc) ∨
        (s.read8 s.pc = 0x10 ∧ f = .unsupported 0x10 s.pc))))

/-- When a call of step returns a fault, the state it leaves is the state before it with the fault recorded, a further
call returns the same fault and changes nothing, and a reset that succeeds clears it. (R602) -/
def Obligations.FaultingStepSetsOnlyTheFaultAndSticks : Prop :=
  ∀ (s t : State) (f : Fault), stepCall s = (t, .fault f) →
    t = { s with fault := some f } ∧ stepCall t = (t, .fault f) ∧
    ∀ (image : List Byte) (u : State), t.hostReset (some image) = .ok u → u.fault = none

/-- When a call of step returns Ok(n), the state it leaves is the next state of step and its cycleCounter is greater by
exactly n. (60_exceptions.md R600, 60_exceptions.md R626, 60_exceptions.md R627) -/
def Obligations.StepReturnsTheCyclesItCounts : Prop :=
  ∀ (s t : State) (n : Nat), stepCall s = (t, .ok n) → step s = .next t ∧ t.cycleCounter = s.cycleCounter + n

/-- A step of a halted core counts HALT_IDLE_CYCLES and runs the timers with it, the pc and IME unchanged. If no enabled
request is pending then, that is the whole step and the core stays halted. If one is pending, the core wakes and
interrupt service follows in the same step: with IME 0 it does nothing more, and the request stays pending; with IME 1
it takes the first ready source, with the pc as return address, and a dispatch cost that is not 0 is counted and runs
the timers again. (60_exceptions.md R601, 60_exceptions.md R615, 60_exceptions.md R618, 60_exceptions.md R625) -/
def Obligations.HaltedStepIdlesAndWakes : Prop :=
  ∀ s : State, s.fault = none → s.halted = true →
    let u := (s.charge s.cfg.haltIdleCycles).timerUpdate s.cfg.haltIdleCycles
    let wakes := u.read8 0xFFFF &&& u.read8 0xFF0F &&& 0x1F ≠ 0
    let w := { u with halted := false }
    u.pc = s.pc ∧ u.ime = s.ime ∧ u.cycleCounter = s.cycleCounter + s.cfg.haltIdleCycles ∧
    (¬ wakes → step s = .next u ∧ u.halted = true) ∧
    (wakes → step s = .next w.serviceInterrupts) ∧
    (wakes → s.ime = false → step s = .next w) ∧
    (wakes → s.ime = true →
      ∃ i, w.readySource = some i ∧
        step s = .next (if s.cfg.intDispatchCycles = 0 then w.takeInterrupt i
          else ((w.takeInterrupt i).charge s.cfg.intDispatchCycles).timerUpdate s.cfg.intDispatchCycles))

/-- From every state that meets the invariant, a step that completes gives a state that meets it: the parameters are well-
formed, memory is in canonical form, divCounter is between 1 and DIV_PERIOD and timaCounter between 1 and a period,
eiPending is 0 unless EI is delayed and while halted, and haltBug is 1 only with IME, eiPending and halted 0. The
canonical form and the parameters in State are choices of the model (log entries 1 and 4). (10_state.md R59 to R63,
60_exceptions.md R601, 60_exceptions.md R613, 60_exceptions.md R618, log entries 1 and 4) -/
def Obligations.StepKeepsTheInvariant : Prop :=
  ∀ s t : State, Inv s → step s = .next t → Inv t

/-- The state after reset meets the invariant that every step keeps; its all-zero boot image is the model's choice (log
entry 3). (70_reset_and_hazards.md R707, log entries 1, 3 and 4) -/
def Obligations.ResetMeetsTheInvariant : Prop :=
  Inv State.reset

/-- When exec gives a next state, the countdowns, the fault and the parameters are unchanged; IME and eiPending are
unchanged unless the instruction is EI, DI or RETI; halted is unchanged and haltBug is 0 unless it is HALT.
(10_state.md R58, 10_state.md R59, 10_state.md R62 to R65) -/
def Obligations.NoInstructionTouchesTheBlockOrStrayControlBits : Prop :=
  ∀ (i : Instr) (s t : State), exec i s = .next t →
    SameBlock s t ∧ (i ∉ [.ei, .di, .reti] → t.ime = s.ime ∧ t.eiPending = s.eiPending) ∧
    (i ≠ .halt → t.halted = s.halted ∧ t.haltBug = false)

/-- Source i is first when IME is 1, its bits of IE and IF are 1, and no lower source has both. When none is first,
interrupt service changes nothing; when i is, it takes that interrupt: IF is written with the bit of the source
cleared and its others kept, then the high byte of the pc at SP-1, then its low byte at SP-2 (on FlatRAM these read
back, a push that meets IF overwriting it); IME, eiPending and halted become 0, SP falls by 2, the pc is the vector,
every other byte and register is unchanged; and the cost INT_DISPATCH_CYCLES, when not 0, is counted and runs the
timers (R601, R615). The clause on haltBug is R613's last sentence, which the spec marks [derived: from rule R601 and
rule R501]: haltBug is 0 when a dispatch happens; it is stated where the control bits agree, which is part of the
invariant every step keeps. (60_exceptions.md R601, 60_exceptions.md R612, 60_exceptions.md R613, 60_exceptions.md
R615) -/
def Obligations.InterruptEntryEffect : Prop :=
  ∀ s : State,
    let ready := fun i : Fin 5 => (s.read8 0xFFFF).getLsbD i.val = true ∧ (s.read8 0xFF0F).getLsbD i.val = true
    let first := fun i : Fin 5 => s.ime = true ∧ ready i ∧ ∀ j, j < i → ¬ ready j
    ((∀ i, ¬ first i) → s.serviceInterrupts = s) ∧
    ∀ i : Fin 5,
      (first i → s.serviceInterrupts =
        if s.cfg.intDispatchCycles = 0 then s.takeInterrupt i
        else ((s.takeInterrupt i).charge s.cfg.intDispatchCycles).timerUpdate s.cfg.intDispatchCycles) ∧
      (first i → ControlBitsAgree s → s.haltBug = false) ∧
      let t := s.takeInterrupt i
      t.pc = 0x0040 + 8 * BitVec.ofNat 16 i.val ∧ t.sp = s.sp - 2 ∧
      t.ime = false ∧ t.eiPending = false ∧ t.halted = false ∧ t.haltBug = s.haltBug ∧
      Stores s t [(0xFF0F, s.read8 0xFF0F &&& ~~~((1 : Byte) <<< i.val)), (s.sp - 1, hi s.pc), (s.sp - 2, lo s.pc)] ∧
      (s.cfg.memoryBus = .flatRAM → ∀ a, t.read8 a =
        if a = s.sp - 2 then lo s.pc
        else if a = s.sp - 1 then hi s.pc
        else if a = 0xFF0F then s.read8 0xFF0F &&& ~~~((1 : Byte) <<< i.val)
        else s.read8 a) ∧
      SameRegs s t ∧ t.flags = s.flags ∧ SameBlock s t ∧ t.cycleCounter = s.cycleCounter

/-- A source is chosen exactly when IME is 1, its bits of IE and IF are both 1, and no lower-numbered source has both;
none is chosen exactly when IME is 0 or no source has both. (60_exceptions.md R610, 60_exceptions.md R611) -/
def Obligations.LowestReadySourceWins : Prop :=
  ∀ s : State,
    (∀ i : Fin 5, s.readySource = some i ↔
      s.ime = true ∧ (s.read8 0xFFFF).getLsbD i.val = true ∧ (s.read8 0xFF0F).getLsbD i.val = true ∧
      ∀ j : Fin 5, j < i → ¬ ((s.read8 0xFFFF).getLsbD j.val = true ∧ (s.read8 0xFF0F).getLsbD j.val = true)) ∧
    (s.readySource = none ↔
      s.ime = false ∨
      ∀ j : Fin 5, ¬ ((s.read8 0xFFFF).getLsbD j.val = true ∧ (s.read8 0xFF0F).getLsbD j.val = true))

/-- When a source is taken, IME is 0 afterwards, and interrupt service called again changes nothing, whatever is still
pending. (60_exceptions.md R614) -/
def Obligations.SecondServiceTakesNothing : Prop :=
  ∀ (s : State) (i : Fin 5), s.readySource = some i →
    s.serviceInterrupts.ime = false ∧ s.serviceInterrupts.serviceInterrupts = s.serviceInterrupts

/-- Taking the interrupt of source 0, 1, 2, 3 or 4 sets the pc to 0x0040, 0x0048, 0x0050, 0x0058 or 0x0060.
(60_exceptions.md R607) -/
def Obligations.VectorsAreFixed : Prop :=
  ∀ s : State, (s.takeInterrupt 0).pc = 0x0040 ∧ (s.takeInterrupt 1).pc = 0x0048 ∧ (s.takeInterrupt 2).pc = 0x0050 ∧
    (s.takeInterrupt 3).pc = 0x0058 ∧ (s.takeInterrupt 4).pc = 0x0060

/-- The divider subtracts the cycles from divCounter; when the result is at most 0, divCounter becomes DIV_PERIOD and DIV
is written once, with what it read plus 1 modulo 256; nothing else changes. (R621) -/
def Obligations.DividerCountsDownAndAdvancesDIV : Prop :=
  ∀ (s : State) (c : Nat),
    let t := s.dividerUpdate c
    (0 < s.divCounter - (c : Int) → t = { s with divCounter := s.divCounter - c }) ∧
    (s.divCounter - (c : Int) ≤ 0 →
      t.divCounter = (s.cfg.divPeriod : Int) ∧
      (let v := BitVec.ofNat 8 (((s.read8 0xFF04).toNat + 1) % 256)
       Stores s t [(0xFF04, v)] ∧ Holds s t 0xFF04 v) ∧
      { t with divCounter := s.divCounter, mem := s.mem } = s)

/-- When TAC bit 2 is 0 and gates, nothing changes. Otherwise the cycles are subtracted from timaCounter; when the result
is at most 0, timaCounter becomes SYSTEM_CLOCK_RATE div TIMA_FREQ[TAC[1:0]], and TIMA is written with what it read
plus 1, or when it read 0xFF with TMA, and then IF with bit 2 set and its other bits kept; nothing else changes.
(R623, R624) -/
def Obligations.CounterCountsDownAndReloadsTIMA : Prop :=
  ∀ (s : State) (c : Nat),
    let t := s.counterUpdate c
    let runs := s.cfg.tacEnableGates = false ∨ (s.read8 0xFF07).getLsbD 2 = true
    let freq := [s.cfg.timaFreq0, s.cfg.timaFreq1, s.cfg.timaFreq2, s.cfg.timaFreq3].getD ((s.read8 0xFF07).toNat % 4) 0
    (¬ runs → t = s) ∧
    (runs → 0 < s.timaCounter - (c : Int) → t = { s with timaCounter := s.timaCounter - c }) ∧
    (runs → s.timaCounter - (c : Int) ≤ 0 →
      t.timaCounter = ((s.cfg.systemClockRate / freq : Nat) : Int) ∧
      { t with timaCounter := s.timaCounter, mem := s.mem } = s ∧
      (s.read8 0xFF05 ≠ 0xFF →
        let v := BitVec.ofNat 8 ((s.read8 0xFF05).toNat + 1)
        Stores s t [(0xFF05, v)] ∧ Holds s t 0xFF05 v) ∧
      (s.read8 0xFF05 = 0xFF →
        Stores s t [(0xFF05, s.read8 0xFF06),
          (0xFF0F, (s.write8 0xFF05 (s.read8 0xFF06)).read8 0xFF0F ||| 0x04)] ∧
        Holds s t 0xFF05 (s.read8 0xFF06) ∧ Holds s t 0xFF0F (s.read8 0xFF0F ||| 0x04)))

/-- A timer update runs the divider and then the programmable counter; it leaves every register, flag, control bit, the
cycle counter, and every byte of memory but DIV, TIMA and IF; on FlatRAM every bit of IF but bit 2 is kept, and bit 2
is never cleared. (60_exceptions.md R609, 60_exceptions.md R620, 60_exceptions.md R622, 60_exceptions.md R625) -/
def Obligations.TimersTouchOnlyTheirOwnState : Prop :=
  ∀ (s : State) (c : Nat),
    let t := s.timerUpdate c
    SameRegs s t ∧ t.flags = s.flags ∧ t.sp = s.sp ∧ t.pc = s.pc ∧ SameControl s t ∧ t.haltBug = s.haltBug ∧
    t.cycleCounter = s.cycleCounter ∧ t.fault = s.fault ∧ t.cfg = s.cfg ∧
    SameMemBut s t [0xFF04, 0xFF05, 0xFF0F] ∧
    t = (s.dividerUpdate c).counterUpdate c ∧
    (s.cfg.memoryBus = .flatRAM → t.read8 0xFF0F = s.read8 0xFF0F ∨ t.read8 0xFF0F = s.read8 0xFF0F ||| 0x04)

/-- runFrame returns Ok(n) and leaves t exactly when some number of calls of step, from the state with cycleCounter 0, all
return Ok and lead to t, cycleCounter is below the budget SYSTEM_CLOCK_RATE div 60 before each of them and at least
the budget in t, and n is cycleCounter in t. It returns a fault and leaves t exactly when such calls lead to a state
still below the budget from which the next call returns that fault and leaves t. With the costs of the rules the
overrun is less than the largest cost of one step. (60_exceptions.md R627, 60_exceptions.md R628, log entry 8) -/
def Obligations.FrameStopsAtTheFirstStepPastItsBudget : Prop :=
  ∀ s t : State,
    let s0 := { s with cycleCounter := 0 }
    let budget := s.cfg.systemClockRate / 60
    (∀ n, FrameReturns s t (.ok n) ↔ ∃ k, RunsBelow budget k s0 t ∧ budget ≤ t.cycleCounter ∧ n = t.cycleCounter) ∧
    (∀ f, FrameReturns s t (.fault f) ↔
      ∃ k u, RunsBelow budget k s0 u ∧ u.cycleCounter < budget ∧ stepCall u = (t, .fault f)) ∧
    (∀ n, CostsPositive s.cfg → FrameReturns s t (.ok n) → n < budget + maxStepCost s.cfg)

/-- With the costs of the rules, runFrame from any state returns Ok or a fault within FRAME_BUDGET steps. Whatever the
costs, a frame has at most one result and one state that it leaves. (60_exceptions.md R600, 60_exceptions.md R628, log
entry 8) -/
def Obligations.FrameAlwaysEnds : Prop :=
  ∀ s : State,
    (CostsPositive s.cfg → ∃ t r, FrameReturns s t r ∧ runFrame (s.cfg.systemClockRate / 60) s = (t, r) ∧
      ((∃ n, r = .ok n) ∨ ∃ f, r = .fault f)) ∧
    ∀ t t' r r', FrameReturns s t r → FrameReturns s t' r' → (t, r) = (t', r')

/-- When runFrame returns a fault, the state it leaves holds that fault, and when a frame has a budget at all the next
frame returns the same fault, and only that, and changes nothing but cycleCounter, which it sets to 0.
(60_exceptions.md R602, 60_exceptions.md R628) -/
def Obligations.FaultEndsTheFrame : Prop :=
  ∀ (s t : State) (f : Fault), FrameReturns s t (.fault f) →
    t.fault = some f ∧
    (0 < t.cfg.systemClockRate / 60 →
      ∀ t' r, FrameReturns t t' r ↔ t' = { t with cycleCounter := 0 } ∧ r = .fault f)

/-- A reset with an image of at least BOOT_LEN bytes gives AF = 0x01B0, BC = 0x0013, DE = 0x00D8, HL = 0x014D, SP =
0xFFFE, PC = 0, IME, halted, haltBug and eiPending 0, no fault, divCounter = DIV_PERIOD, timaCounter = TIMA_PERIOD(0),
cycleCounter 0; the image is written byte by byte to addresses 0 to BOOT_LEN - 1 and nothing else is written, so on
FlatRAM these addresses hold the image and every other byte is what it was. Which general pair gets which value, IME,
the countdowns and the cycle counter are decisions of the spec (D15 to D18). (70_reset_and_hazards.md R701 to R706,
92_eei_decisions.md D15 to D18, D33) -/
def Obligations.HostResetSetsTheDocumentedState : Prop :=
  ∀ (s : State) (image : List Byte), s.cfg.bootLen ≤ image.length → s.cfg.bootLen ≤ 65536 →
    ∃ t, s.hostReset (some image) = .ok t ∧
      t.af = 0x01B0 ∧ t.bc = 0x0013 ∧ t.de = 0x00D8 ∧ t.hl = 0x014D ∧ t.sp = 0xFFFE ∧ t.pc = 0x0000 ∧
      t.ime = false ∧ t.halted = false ∧ t.haltBug = false ∧ t.eiPending = false ∧ t.fault = none ∧
      t.divCounter = (s.cfg.divPeriod : Int) ∧
      t.timaCounter = ((s.cfg.systemClockRate / s.cfg.timaFreq0 : Nat) : Int) ∧ t.cycleCounter = 0 ∧ t.cfg = s.cfg ∧
      Stores s t ((List.range s.cfg.bootLen).map fun j => (BitVec.ofNat 16 j, image.getD j 0)) ∧
      (∀ a : Word, a.toNat < s.cfg.bootLen → Holds s t a (image.getD a.toNat 0)) ∧
      (∀ a : Word, s.cfg.bootLen ≤ a.toNat → Holds s t a (s.read8 a))

/-- Reset without an image, or with one shorter than BOOT_LEN, answers BootLoadFailure, whose code is 3, and no state.
(70_reset_and_hazards.md R703, 60_exceptions.md R605) -/
def Obligations.ShortOrMissingBootImageFails : Prop :=
  ∀ s : State, s.hostReset none = .bootLoadFailure ∧
    (∀ image : List Byte, image.length < s.cfg.bootLen → s.hostReset (some image) = .bootLoadFailure) ∧
    bootLoadFailureCode = 3

/-- A reset of a block with the default parameters and all-zero memory, with a boot image of 256 zero bytes (the model's
choice of image, log entry 3), gives State.reset, in which A to L, SP, PC and the counters are the values of R707.
(70_reset_and_hazards.md R707, 00_scope.md R10, log entry 3) -/
def Obligations.ResetStateIsTheDefaultReset : Prop :=
  State.reset.hostReset (some (List.replicate 256 0)) = .ok State.reset ∧
  State.reset.af = 0x01B0 ∧ State.reset.bc = 0x0013 ∧ State.reset.de = 0x00D8 ∧ State.reset.hl = 0x014D ∧
  State.reset.sp = 0xFFFE ∧ State.reset.pc = 0x0000 ∧
  State.reset.divCounter = 256 ∧ State.reset.timaCounter = 1024 ∧ State.reset.cycleCounter = 0 ∧
  ∀ a, State.reset.read8 a = 0x00

/-- Every pair reads as (high << 8) | low of its halves, SP as itself; after a write of a value the pair reads as that
value, its high half is bits 15 to 8 and its low half bits 7 to 0, and no other register changes; a write to one 8-bit
register leaves every other one. (R51, R52) -/
def Obligations.PairsAreViewsOfTheirHalves : Prop :=
  ∀ (s : State) (v : Word),
    s.bc.toNat = s.b.toNat * 256 + s.c.toNat ∧ s.de.toNat = s.d.toNat * 256 + s.e.toNat ∧
    s.hl.toNat = s.h.toNat * 256 + s.l.toNat ∧ s.af.toNat = s.a.toNat * 256 + s.f.toNat ∧
    (∀ r, (s.setReg16 r v).reg16 r = v ∧ SameRegsBut s (s.setReg16 r v) r.halves ∧
      (s.setReg16 r v).flags = s.flags ∧ (r ≠ .sp → (s.setReg16 r v).sp = s.sp)) ∧
    (s.setReg16 .bc v).b.toNat = v.toNat / 256 ∧ (s.setReg16 .bc v).c.toNat = v.toNat % 256 ∧
    (s.setReg16 .de v).d.toNat = v.toNat / 256 ∧ (s.setReg16 .de v).e.toNat = v.toNat % 256 ∧
    (s.setReg16 .hl v).h.toNat = v.toNat / 256 ∧ (s.setReg16 .hl v).l.toNat = v.toNat % 256 ∧
    (s.setRegStk .af v).a.toNat = v.toNat / 256 ∧ (s.setRegStk .af v).f = lo v &&& 0xF0 ∧
    ∀ (r : Reg8) (w : Byte), (s.setReg8 r w).reg8 r = w ∧ SameRegsBut s (s.setReg8 r w) [r] ∧ (s.setReg8 r w).flags = s.flags

/-- In every state F and AF read with bits 3 to 0 zero, and a write of a word to AF stores the word with those bits
cleared. (10_state.md R53) -/
def Obligations.LowNibbleOfFIsZero : Prop :=
  ∀ (s : State) (v : Word), s.f &&& 0x0F = 0 ∧ s.af &&& 0x000F = 0 ∧ (s.setRegStk .af v).af = v &&& 0xFFF0

/-- On FlatRAM a read after a write answers the value written at its address and what was there elsewhere, and so FlatRAM
meets the contract; on a platform's bus the read and the write are the platform's; a write changes nothing but memory.
A word is read little-endian, its high byte at the next address modulo 65536, and written low byte first. push16(v)
lowers SP by 2 and writes the high byte at SP-1, then the low byte at SP-2; on FlatRAM pop16() then returns v and
restores SP; pop16() in any state returns the word at SP and raises SP by 2. (00_scope.md R10, 20_memory.md R101 to
R106, 20_memory.md R110, log entry 2) -/
def Obligations.MemoryContractPushAndPop : Prop :=
  MeetsContract .flatRAM ∧
  ∀ (s : State) (a v : Word) (b : Byte),
    (s.cfg.memoryBus = .flatRAM → ∀ k, (s.write8 a b).read8 k = if k = a then b else s.read8 k) ∧
    (∀ k, s.cfg.memoryBus = .platform k → s.read8 a = MemoryBus.platformRead k s.mem.platform a ∧
      (s.write8 a b).mem.platform = MemoryBus.platformWrite k s.mem.platform a b) ∧
    { s.write8 a b with mem := s.mem } = s ∧
    s.readWord a = join (s.read8 (a + 1)) (s.read8 a) ∧
    Stores s (s.writeWord a v) [(a, lo v), (a + 1, hi v)] ∧
    (s.push16 v).sp = s.sp - 2 ∧ Stores s (s.push16 v) [(s.sp - 1, hi v), (s.sp - 2, lo v)] ∧
    Holds s (s.push16 v) (s.sp - 1) (hi v) ∧ Holds s (s.push16 v) (s.sp - 2) (lo v) ∧
    (s.cfg.memoryBus = .flatRAM → (s.push16 v).popValue = v) ∧ (s.push16 v).popped.sp = s.sp ∧
    s.popValue = join (s.read8 (s.sp + 1)) (s.read8 s.sp) ∧ s.popped = { s with sp := s.sp + 2 }

/-- For every destination and source, the load completes: the register holds the source's value as it was before, and no
other register, no flag, SP, no memory, no control bit changes; the pc is past the instruction and the cost is 1 for a
register and 2 for an immediate or (HL). Covers ld_<r>_<r>, ld_<r>_n8, ld_<r>_atHL for r in b c d e h l a. (R201,
R202, R203) -/
def Obligations.LoadRegister8 : Prop :=
  ∀ (dst : Reg8) (src : Src8) (s : State),
    (match src with
      | .reg r => encode (Instr.ld dst src) = [opXYZ 0b01 dst.index r.index]
      | .atHL => encode (Instr.ld dst src) = [opXYZ 0b01 dst.index 0b110]
      | .imm n => encode (Instr.ld dst src) = [opXYZ 0b00 dst.index 0b110, n]) ∧
    ∃ t, exec (Instr.ld dst src) s = .next t ∧
      (match src with
        | .reg r => t.reg8 dst = s.reg8 r ∧ Retires (Instr.ld dst src) s t 1
        | .atHL => t.reg8 dst = s.read8 s.hl ∧ Retires (Instr.ld dst src) s t 2
        | .imm n => t.reg8 dst = n ∧ Retires (Instr.ld dst src) s t 2) ∧
      SameRegsBut s t [dst] ∧ t.flags = s.flags ∧ t.sp = s.sp ∧ SameMem s t ∧ Quiet s t

/-- For every register and immediate, the store completes: the one write is of the register or the immediate to the
address HL, which on FlatRAM then reads so, every other byte reads as before, no register, flag or control bit
changes, and the cost is 2 or 3. Covers ld_atHL_b, _c, _d, _e, _h, _l, _a and ld_atHL_n8. (R204, R205) -/
def Obligations.StoreAtHL : Prop :=
  ∀ s : State,
    (∀ r : Reg8, encode (Instr.store r) = [opXYZ 0b01 0b110 r.index] ∧
      ∃ t, exec (Instr.store r) s = .next t ∧
        Stores s t [(s.hl, s.reg8 r)] ∧ Holds s t s.hl (s.reg8 r) ∧
        SameRegs s t ∧ t.flags = s.flags ∧ t.sp = s.sp ∧ Quiet s t ∧ Retires (Instr.store r) s t 2) ∧
    (∀ n : Byte, encode (.ld_atHL_n8 n) = [0x36, n] ∧
      ∃ t, exec (.ld_atHL_n8 n) s = .next t ∧
        Stores s t [(s.hl, n)] ∧ Holds s t s.hl n ∧
        SameRegs s t ∧ t.flags = s.flags ∧ t.sp = s.sp ∧ Quiet s t ∧ Retires (.ld_atHL_n8 n) s t 3)

/-- Each load of A completes: A is the byte at the address the form names (BC; DE; a16; 0xFF00 | a8; 0xFF00 | C), and
nothing else changes but the pc and the counted cost. Covers ld_a_atBC, ld_a_atDE, ld_a_atA16, ldh_a_atA8, ld_a_atC.
(R206, R207, R210, R212, R214) -/
def Obligations.LoadAFromMemory : Prop :=
  ∀ (s : State) (k : Word) (n : Byte), ∀ x ∈ ([(.ld_a_atBC, s.bc, 2, [0x0A]),
       (.ld_a_atDE, s.de, 2, [0x1A]),
       (.ld_a_atA16 k, k, 4, [0xFA, lo k, hi k]),
       (.ldh_a_atA8 n, (0xFF00 ||| n.zeroExtend 16), 3, [0xF0, n]),
       (.ld_a_atC, (0xFF00 ||| s.c.zeroExtend 16), 2, [0xF2])] :
        List (Instr × Word × Nat × List Byte)),
    encode x.1 = x.2.2.2 ∧
    ∃ t, exec x.1 s = .next t ∧ t.a = s.read8 x.2.1 ∧ SameRegsBut s t [.a] ∧ t.flags = s.flags ∧ t.sp = s.sp ∧
      SameMem s t ∧ Quiet s t ∧ Retires x.1 s t x.2.2.1

/-- Each store of A completes: the one write is of A to the address the form names, which on FlatRAM then reads so, every
other byte reads as before, and no register, flag or control bit changes. Covers ld_atBC_a, ld_atDE_a, ld_atA16_a,
ldh_atA8_a, ld_atC_a. (R208, R209, R211, R213, R215) -/
def Obligations.StoreAToMemory : Prop :=
  ∀ (s : State) (k : Word) (n : Byte), ∀ x ∈ ([(.ld_atBC_a, s.bc, 2, [0x02]),
       (.ld_atDE_a, s.de, 2, [0x12]),
       (.ld_atA16_a k, k, 4, [0xEA, lo k, hi k]),
       (.ldh_atA8_a n, (0xFF00 ||| n.zeroExtend 16), 3, [0xE0, n]),
       (.ld_atC_a, (0xFF00 ||| s.c.zeroExtend 16), 2, [0xE2])] :
        List (Instr × Word × Nat × List Byte)),
    encode x.1 = x.2.2.2 ∧
    ∃ t, exec x.1 s = .next t ∧ Stores s t [(x.2.1, s.a)] ∧ Holds s t x.2.1 s.a ∧ SameRegs s t ∧ t.flags = s.flags ∧
      t.sp = s.sp ∧ Quiet s t ∧ Retires x.1 s t x.2.2.1

/-- Each form completes at cost 2: the byte stored to (which on FlatRAM then reads as A) or read is at the old HL, HL then
goes up or down by 1 modulo 65536, and nothing else changes. Covers ld_atHLI_a, ld_a_atHLI, ld_atHLD_a, ld_a_atHLD.
(R216, R217, R218, R219) -/
def Obligations.LoadStoreAWithHLStep : Prop :=
  encode .ld_atHLI_a = [0x22] ∧ encode .ld_a_atHLI = [0x2A] ∧ encode .ld_atHLD_a = [0x32] ∧ encode .ld_a_atHLD = [0x3A] ∧
  ∀ s : State,
    (∀ x ∈ ([(.ld_atHLI_a, 1), (.ld_atHLD_a, -1)] : List (Instr × Word)),
      ∃ t, exec x.1 s = .next t ∧ Stores s t [(s.hl, s.a)] ∧ Holds s t s.hl s.a ∧ t.hl = s.hl + x.2 ∧
        SameRegsBut s t [.h, .l] ∧ t.flags = s.flags ∧ t.sp = s.sp ∧ Quiet s t ∧ Retires x.1 s t 2) ∧
    (∀ x ∈ ([(.ld_a_atHLI, 1), (.ld_a_atHLD, -1)] : List (Instr × Word)),
      ∃ t, exec x.1 s = .next t ∧ t.a = s.read8 s.hl ∧ t.hl = s.hl + x.2 ∧ SameMem s t ∧
        SameRegsBut s t [.a, .h, .l] ∧ t.flags = s.flags ∧ t.sp = s.sp ∧ Quiet s t ∧ Retires x.1 s t 2)

/-- LD rr,n16 completes at cost 3 and sets the pair to the immediate; LD SP,HL completes at cost 2 and sets SP to HL;
nothing else changes. Covers ld_bc_n16, ld_de_n16, ld_hl_n16, ld_sp_n16, ld_sp_hl. (R251, R253) -/
def Obligations.LoadPairAndSP : Prop :=
  ∀ s : State,
    (∀ (r : Reg16) (v : Word), encode (Instr.ldPair r v) = [opXPQZ 0b00 r.index 0 0b001, lo v, hi v] ∧
      ∃ t, exec (Instr.ldPair r v) s = .next t ∧ t.reg16 r = v ∧ SameRegsBut s t r.halves ∧
        (r ≠ .sp → t.sp = s.sp) ∧ t.flags = s.flags ∧ SameMem s t ∧ Quiet s t ∧ Retires (Instr.ldPair r v) s t 3) ∧
    encode .ld_sp_hl = [0xF9] ∧
    ∃ t, exec .ld_sp_hl s = .next t ∧ t.sp = s.hl ∧ SameRegs s t ∧ t.flags = s.flags ∧ SameMem s t ∧ Quiet s t ∧
      Retires .ld_sp_hl s t 2

/-- LD (a16),SP completes at cost 5: it writes the low byte of SP at a16, then the high byte at a16 + 1 modulo 65536, and
on FlatRAM both read back; every other byte reads as before, and no register or flag changes. Covers ld_atA16_sp.
(R252) -/
def Obligations.StoreSPAtAddress : Prop :=
  ∀ (s : State) (k : Word), encode (.ld_atA16_sp k) = [0x08, lo k, hi k] ∧
    ∃ t, exec (.ld_atA16_sp k) s = .next t ∧ Stores s t [(k, lo s.sp), (k + 1, hi s.sp)] ∧
      Holds s t k (lo s.sp) ∧ Holds s t (k + 1) (hi s.sp) ∧ SameRegs s t ∧ t.flags = s.flags ∧ t.sp = s.sp ∧ Quiet s t ∧
      Retires (.ld_atA16_sp k) s t 5

/-- Both complete: HL (cost 3) or SP (cost 4) is SP plus the signed displacement modulo 65536, Z = N = 0, H and C are the
carries of the unsigned sum of the byte and SP's low byte, and nothing else changes. Covers ld_hl_spE8, add_sp_e8.
(R254, R354) -/
def Obligations.AddDisplacementToSP : Prop :=
  ∀ (s : State) (e : Byte),
    encode (.ld_hl_spE8 e) = [0xF8, e] ∧ encode (.add_sp_e8 e) = [0xE8, e] ∧
    ∃ t u, exec (.ld_hl_spE8 e) s = .next t ∧ exec (.add_sp_e8 e) s = .next u ∧
      IsDisplaced t.hl s.sp e ∧ IsDisplaced u.sp s.sp e ∧ t.sp = s.sp ∧
      t.flags = u.flags ∧ t.flags.z = false ∧ t.flags.n = false ∧
      (t.flags.h = true ↔ 0x0F < s.sp.toNat % 16 + e.toNat % 16) ∧
      (t.flags.c = true ↔ 0xFF < s.sp.toNat % 256 + e.toNat) ∧
      SameRegsBut s t [.h, .l] ∧ SameRegs s u ∧ SameMem s t ∧ SameMem s u ∧ Quiet s t ∧ Quiet s u ∧
      Retires (.ld_hl_spE8 e) s t 3 ∧ Retires (.add_sp_e8 e) s u 4

/-- PUSH completes at cost 4: it writes the high byte of the pair (A for AF) at SP-1, then the low byte (F for AF) at
SP-2, and on FlatRAM both read back; SP is lower by 2, every other byte reads as before, and no other register and no
flag changes. Covers push_bc, push_de, push_hl, push_af. (R255) -/
def Obligations.PushPair : Prop :=
  ∀ (s : State) (r : RegStk), encode (Instr.push r) = [opXPQZ 0b11 r.index 0 0b101] ∧
    ∃ t, exec (Instr.push r) s = .next t ∧
      (let pushed := fun h l : Byte => Stores s t [(s.sp - 1, h), (s.sp - 2, l)] ∧ Holds s t (s.sp - 1) h ∧ Holds s t (s.sp - 2) l
       match r with
        | .bc => pushed s.b s.c
        | .de => pushed s.d s.e
        | .hl => pushed s.h s.l
        | .af => pushed s.a s.f) ∧
      t.sp = s.sp - 2 ∧ SameRegs s t ∧ t.flags = s.flags ∧ Quiet s t ∧
      Retires (Instr.push r) s t 4

/-- POP completes at cost 3: the high half is the byte at SP+1 and the low half the byte at SP, SP is higher by 2; POP AF
sets Z N H C to bits 7 to 4 of the low byte, and F to that byte with its low four bits cleared; otherwise no flag
changes, and no memory and no other register does. Covers pop_bc, pop_de, pop_hl, pop_af. (R256, R257) -/
def Obligations.PopPair : Prop :=
  ∀ (s : State) (r : RegStk), encode (Instr.pop r) = [opXPQZ 0b11 r.index 0 0b001] ∧
    ∃ t, exec (Instr.pop r) s = .next t ∧
      (match r with
        | .bc => t.b = s.read8 (s.sp + 1) ∧ t.c = s.read8 s.sp ∧ t.flags = s.flags
        | .de => t.d = s.read8 (s.sp + 1) ∧ t.e = s.read8 s.sp ∧ t.flags = s.flags
        | .hl => t.h = s.read8 (s.sp + 1) ∧ t.l = s.read8 s.sp ∧ t.flags = s.flags
        | .af => t.a = s.read8 (s.sp + 1) ∧ t.f = s.read8 s.sp &&& 0xF0 ∧
            t.flags.z = (s.read8 s.sp).getLsbD 7 ∧ t.flags.n = (s.read8 s.sp).getLsbD 6 ∧
            t.flags.h = (s.read8 s.sp).getLsbD 5 ∧ t.flags.c = (s.read8 s.sp).getLsbD 4) ∧
      t.sp = s.sp + 2 ∧ SameRegsBut s t r.halves ∧ SameMem s t ∧ Quiet s t ∧ Retires (Instr.pop r) s t 3

/-- ADD and ADC complete for every source: A is the sum of A, the operand and, for ADC, the carry, modulo 256; Z says that
it is 0, N = 0, H is the carry out of bit 3, C the carry out of bit 7; only A and the flags change; the cost is 1 for
a register and 2 otherwise. Covers add_a_* and adc_a_*. (R303, R304, R305, R306, R307, R308) -/
def Obligations.AddAndAddWithCarry : Prop :=
  ∀ (op : AluOp) (src : Src8) (s : State), op = .add ∨ op = .adc →
    (match src with
      | .reg r => encode (Instr.alu op src) = [opXYZ 0b10 op.index r.index]
      | .atHL => encode (Instr.alu op src) = [opXYZ 0b10 op.index 0b110]
      | .imm n => encode (Instr.alu op src) = [opXYZ 0b11 op.index 0b110, n]) ∧
    ∃ t, exec (Instr.alu op src) s = .next t ∧
      (let cin := if op = .adc ∧ s.flags.c = true then 1 else 0
       let v := (src.value s).toNat
       t.a.toNat = (s.a.toNat + v + cin) % 256 ∧ (t.flags.z = true ↔ t.a = 0) ∧ t.flags.n = false ∧
       (t.flags.h = true ↔ 0x0F < s.a.toNat % 16 + v % 16 + cin) ∧
       (t.flags.c = true ↔ 0xFF < s.a.toNat + v + cin)) ∧
      SameRegsBut s t [.a] ∧ t.sp = s.sp ∧ SameMem s t ∧ Quiet s t ∧
      Retires (Instr.alu op src) s t src.cycles

/-- SUB, SBC and CP complete for every source: the difference of A, the operand and, for SBC, the carry, modulo 256, is
stored in A by SUB and SBC, and not by CP; Z says that it is 0, N = 1, H is the borrow into bit 4, C the borrow out of
bit 7; nothing else changes. Covers sub_*, sbc_a_* and cp_*. (R309, R310, R311, R312, R313, R314, R324, R325, R326) -/
def Obligations.SubtractWithCarryAndCompare : Prop :=
  ∀ (op : AluOp) (src : Src8) (s : State), op = .sub ∨ op = .sbc ∨ op = .cp →
    (match src with
      | .reg r => encode (Instr.alu op src) = [opXYZ 0b10 op.index r.index]
      | .atHL => encode (Instr.alu op src) = [opXYZ 0b10 op.index 0b110]
      | .imm n => encode (Instr.alu op src) = [opXYZ 0b11 op.index 0b110, n]) ∧
    ∃ t, exec (Instr.alu op src) s = .next t ∧
      (let cin := if op = .sbc ∧ s.flags.c = true then 1 else 0
       let v := (src.value s).toNat
       let diff := (s.a.toNat + 512 - v - cin) % 256
       t.a.toNat = (if op = .cp then s.a.toNat else diff) ∧ (t.flags.z = true ↔ diff = 0) ∧ t.flags.n = true ∧
       (t.flags.h = true ↔ s.a.toNat % 16 < v % 16 + cin) ∧
       (t.flags.c = true ↔ s.a.toNat < v + cin)) ∧
      SameRegsBut s t [.a] ∧ t.sp = s.sp ∧ SameMem s t ∧ Quiet s t ∧
      Retires (Instr.alu op src) s t src.cycles

/-- AND, XOR and OR complete for every source: A is the bitwise result, Z says that it is 0, N = 0, H = 1 for AND and 0
otherwise, C = 0; only A and the flags change. Covers and_*, xor_* and or_*. (R315, R316, R317, R318, R319, R320,
R321, R322, R323) -/
def Obligations.LogicOperations : Prop :=
  ∀ (op : AluOp) (src : Src8) (s : State), op = .and ∨ op = .xor ∨ op = .or →
    (match src with
      | .reg r => encode (Instr.alu op src) = [opXYZ 0b10 op.index r.index]
      | .atHL => encode (Instr.alu op src) = [opXYZ 0b10 op.index 0b110]
      | .imm n => encode (Instr.alu op src) = [opXYZ 0b11 op.index 0b110, n]) ∧
    ∃ t, exec (Instr.alu op src) s = .next t ∧
      (∀ j : Fin 8, t.a.getLsbD j.val =
        if op = .and then (s.a.getLsbD j.val && (src.value s).getLsbD j.val)
        else if op = .xor then (s.a.getLsbD j.val != (src.value s).getLsbD j.val)
        else (s.a.getLsbD j.val || (src.value s).getLsbD j.val)) ∧
      (t.flags.z = true ↔ t.a = 0) ∧ t.flags.n = false ∧ (t.flags.h = true ↔ op = .and) ∧ t.flags.c = false ∧
      SameRegsBut s t [.a] ∧ t.sp = s.sp ∧ SameMem s t ∧ Quiet s t ∧
      Retires (Instr.alu op src) s t src.cycles

/-- INC and DEC complete on every register and on the byte at HL: the operand goes up or down by 1 modulo 256; Z says that
the result is 0; N = 0 for INC and 1 for DEC; H says that the low nibble was 0xF (INC) or 0x0 (DEC); C is unchanged;
nothing else changes; the cost is 1 for a register and 3 for (HL). Covers inc_* and dec_* on 8-bit operands. (R327,
R328, R329, R330) -/
def Obligations.IncrementAndDecrement8 : Prop :=
  ∀ (x : Loc8) (s : State),
    encode (Instr.inc8 x) = [opXYZ 0b00 x.index 0b100] ∧ encode (Instr.dec8 x) = [opXYZ 0b00 x.index 0b101] ∧
    ∃ t u, exec (Instr.inc8 x) s = .next t ∧ exec (Instr.dec8 x) s = .next u ∧
      OnlyLoc s t x (x.value s + 1) ∧ OnlyLoc s u x (x.value s - 1) ∧
      (t.flags.z = true ↔ (x.value s).toNat = 0xFF) ∧ t.flags.n = false ∧
      (t.flags.h = true ↔ (x.value s).toNat % 16 = 0xF) ∧ t.flags.c = s.flags.c ∧
      (u.flags.z = true ↔ (x.value s).toNat = 0x01) ∧ u.flags.n = true ∧
      (u.flags.h = true ↔ (x.value s).toNat % 16 = 0x0) ∧ u.flags.c = s.flags.c ∧
      t.sp = s.sp ∧ u.sp = s.sp ∧ Quiet s t ∧ Quiet s u ∧
      Retires (Instr.inc8 x) s t (x.cycles 1 3) ∧ Retires (Instr.dec8 x) s u (x.cycles 1 3)

/-- DAA completes at cost 1: after an addition (N = 0) it adds 0x06 when H is set or the low nibble is above 9, and 0x60
when C is set or A is above 0x99; after a subtraction it subtracts 0x06 when H is set and 0x60 when C is set, modulo
256; Z says that the result is 0, N is kept, H = 0, C is set when 0x60 was added and otherwise kept; only A and the
flags change. Covers daa. (R331) -/
def Obligations.DecimalAdjust : Prop :=
  ∀ s : State, encode .daa = [0x27] ∧
    ∃ t, exec .daa s = .next t ∧
      (let low := if s.flags.h = true ∨ (s.flags.n = false ∧ 0x09 < s.a.toNat % 16) then 0x06 else 0
       let high := if s.flags.c = true ∨ (s.flags.n = false ∧ 0x99 < s.a.toNat) then 0x60 else 0
       t.a.toNat = (if s.flags.n then s.a.toNat + 512 - low - high else s.a.toNat + low + high) % 256 ∧
       (t.flags.c = true ↔ high = 0x60)) ∧
      (t.flags.z = true ↔ t.a = 0) ∧ t.flags.n = s.flags.n ∧ t.flags.h = false ∧
      SameRegsBut s t [.a] ∧ t.sp = s.sp ∧ SameMem s t ∧ Quiet s t ∧ Retires .daa s t 1

/-- When A and B hold the two-digit decimal numbers x and y, one digit a nibble, ADD A,B and then DAA leave (x + y) mod
100 in A in the same form, and C says whether x + y reached 100. (42_alu8.md R303, 42_alu8.md R331) -/
def Obligations.DecimalAdditionIsDecimal : Prop :=
  ∀ (s : State) (x y : Nat), x < 100 → y < 100 →
    s.a = BitVec.ofNat 8 (x / 10 * 16 + x % 10) → s.b = BitVec.ofNat 8 (y / 10 * 16 + y % 10) →
    ∃ t u, exec .add_a_b s = .next t ∧ exec .daa t = .next u ∧
      u.a = BitVec.ofNat 8 ((x + y) % 100 / 10 * 16 + (x + y) % 10) ∧ (u.flags.c = true ↔ 100 ≤ x + y)

/-- CPL inverts every bit of A and sets N and H, keeping Z and C; SCF sets C and CCF inverts it, both clearing N and H and
keeping Z and A; each costs 1 and changes nothing else. Covers cpl, scf, ccf. (R332, R333, R334) -/
def Obligations.ComplementAndCarryFlagOperations : Prop :=
  ∀ s : State, encode .cpl = [0x2F] ∧ encode .scf = [0x37] ∧ encode .ccf = [0x3F] ∧
    ∃ t u v, exec .cpl s = .next t ∧ exec .scf s = .next u ∧ exec .ccf s = .next v ∧
      t.a.toNat = 255 - s.a.toNat ∧ t.flags = { s.flags with n := true, h := true } ∧
      u.flags = { s.flags with n := false, h := false, c := true } ∧
      v.flags = { s.flags with n := false, h := false, c := !s.flags.c } ∧
      SameRegsBut s t [.a] ∧ SameRegs s u ∧ SameRegs s v ∧
      t.sp = s.sp ∧ u.sp = s.sp ∧ v.sp = s.sp ∧ SameMem s t ∧ SameMem s u ∧ SameMem s v ∧
      Quiet s t ∧ Quiet s u ∧ Quiet s v ∧ Retires .cpl s t 1 ∧ Retires .scf s u 1 ∧ Retires .ccf s v 1

/-- ADD HL,rr sets HL to the sum modulo 65536, N = 0, H the carry out of bit 11, C the carry out of bit 15, Z kept; INC rr
and DEC rr change the pair by 1 modulo 65536 and no flag; each costs 2 and changes nothing else. Covers add_hl_bc,
add_hl_de, add_hl_hl, add_hl_sp and inc_ and dec_ of bc, de, hl, sp. (R351, R352, R353) -/
def Obligations.PairArithmetic : Prop :=
  ∀ (r : Reg16) (s : State),
    encode (Instr.addHL r) = [opXPQZ 0b00 r.index 1 0b001] ∧ encode (Instr.inc16 r) = [opXPQZ 0b00 r.index 0 0b011] ∧
    encode (Instr.dec16 r) = [opXPQZ 0b00 r.index 1 0b011] ∧
    ∃ t u v, exec (Instr.addHL r) s = .next t ∧ exec (Instr.inc16 r) s = .next u ∧ exec (Instr.dec16 r) s = .next v ∧
      t.hl.toNat = (s.hl.toNat + (s.reg16 r).toNat) % 65536 ∧ t.flags.z = s.flags.z ∧ t.flags.n = false ∧
      (t.flags.h = true ↔ 0x0FFF < s.hl.toNat % 0x1000 + (s.reg16 r).toNat % 0x1000) ∧
      (t.flags.c = true ↔ 0xFFFF < s.hl.toNat + (s.reg16 r).toNat) ∧
      SameRegsBut s t [.h, .l] ∧ t.sp = s.sp ∧
      u.reg16 r = s.reg16 r + 1 ∧ v.reg16 r = s.reg16 r - 1 ∧ u.flags = s.flags ∧ v.flags = s.flags ∧
      SameRegsBut s u r.halves ∧ SameRegsBut s v r.halves ∧ (r ≠ .sp → u.sp = s.sp ∧ v.sp = s.sp) ∧
      SameMem s t ∧ SameMem s u ∧ SameMem s v ∧ Quiet s t ∧ Quiet s u ∧ Quiet s v ∧
      Retires (Instr.addHL r) s t 2 ∧ Retires (Instr.inc16 r) s u 2 ∧ Retires (Instr.dec16 r) s v 2

/-- Each accumulator rotate completes at cost 1: A is rotated through or around the carry, C is the bit that left, N = H =
0, and Z says that the result is 0 under ResultZero and is 0 under AlwaysClear; only A and the flags change. Covers
rlca, rrca, rla, rra. (R401, R402, R403, R404) -/
def Obligations.AccumulatorRotates : Prop :=
  encode .rlca = [0x07] ∧ encode .rrca = [0x0F] ∧ encode .rla = [0x17] ∧ encode .rra = [0x1F] ∧
  ∀ s : State, ∀ x ∈ ([(.rlca, .rlc), (.rrca, .rrc), (.rla, .rl), (.rra, .rr)] : List (Instr × ShiftOp)),
    ∃ t, exec x.1 s = .next t ∧
      t.a.toNat = shiftNat x.2 s.a.toNat (if s.flags.c then 1 else 0) ∧
      (t.flags.c = true ↔ ShiftsOutOne x.2 s.a.toNat) ∧ t.flags.n = false ∧ t.flags.h = false ∧
      (t.flags.z = true ↔ s.cfg.accRotateZ = .resultZero ∧ t.a = 0) ∧
      SameRegsBut s t [.a] ∧ t.sp = s.sp ∧ SameMem s t ∧ Quiet s t ∧ Retires x.1 s t 1

/-- Each prefixed rotate completes on every register (cost 2) and on the byte at HL (cost 4): the operand is rotated
around or through the carry, Z says that the result is 0, N = H = 0, C is the bit that left; nothing else changes.
Covers rlc_*, rrc_*, rl_*, rr_*. (R405, R406, R407, R408, R409, R410, R411, R412) -/
def Obligations.PrefixedRotates : Prop :=
  ∀ (op : ShiftOp) (x : Loc8) (s : State), op = .rlc ∨ op = .rrc ∨ op = .rl ∨ op = .rr →
    encode (Instr.shift op x) = [0xCB, opXYZ 0b00 op.index x.index] ∧
    ∃ t w, exec (Instr.shift op x) s = .next t ∧ OnlyLoc s t x w ∧
      w.toNat = shiftNat op (x.value s).toNat (if s.flags.c then 1 else 0) ∧
      (t.flags.z = true ↔ w = 0) ∧ t.flags.n = false ∧ t.flags.h = false ∧
      (t.flags.c = true ↔ ShiftsOutOne op (x.value s).toNat) ∧
      t.sp = s.sp ∧ Quiet s t ∧ Retires (Instr.shift op x) s t (x.cycles 2 4)

/-- Each shift and SWAP completes on every register (cost 2) and on the byte at HL (cost 4): SLA shifts in 0 at the right,
SRA keeps bit 7, SRL shifts in 0 at the left, SWAP exchanges the nibbles; Z says that the result is 0, N = H = 0, C is
the bit that left and 0 for SWAP; nothing else changes. Covers sla_*, sra_*, swap_*, srl_*. (R413, R414, R415, R416,
R417, R418, R419, R420) -/
def Obligations.PrefixedShiftsAndSwap : Prop :=
  ∀ (op : ShiftOp) (x : Loc8) (s : State), op = .sla ∨ op = .sra ∨ op = .swap ∨ op = .srl →
    encode (Instr.shift op x) = [0xCB, opXYZ 0b00 op.index x.index] ∧
    ∃ t w, exec (Instr.shift op x) s = .next t ∧ OnlyLoc s t x w ∧
      w.toNat = shiftNat op (x.value s).toNat (if s.flags.c then 1 else 0) ∧
      (t.flags.z = true ↔ w = 0) ∧ t.flags.n = false ∧ t.flags.h = false ∧
      (t.flags.c = true ↔ ShiftsOutOne op (x.value s).toNat) ∧
      t.sp = s.sp ∧ Quiet s t ∧ Retires (Instr.shift op x) s t (x.cycles 2 4)

/-- BIT completes on every bit of every register (cost 2) and of the byte at HL (cost 3): Z is the complement of the bit,
N = 0, H = 1, C kept; no register, byte of memory or other state changes. Covers bit_0_* to bit_7_*. (R421, R422) -/
def Obligations.BitTests : Prop :=
  ∀ (b : Fin 8) (x : Loc8) (s : State),
    encode (Instr.bit b x) = [0xCB, opXYZ 0b01 (BitVec.ofNat 3 b.val) x.index] ∧
    ∃ t, exec (Instr.bit b x) s = .next t ∧
      t.flags.z = !(x.value s).getLsbD b.val ∧ t.flags.n = false ∧ t.flags.h = true ∧ t.flags.c = s.flags.c ∧
      SameRegs s t ∧ t.sp = s.sp ∧ SameMem s t ∧ Quiet s t ∧ Retires (Instr.bit b x) s t (x.cycles 2 3)

/-- RES and SET complete on every bit of every register (cost 2) and of the byte at HL (cost 4): that bit of the operand
becomes 0 or 1 and its other bits are kept; no flag and nothing else changes. Covers res_0_* to res_7_* and set_0_* to
set_7_*. (R423, R424, R425, R426) -/
def Obligations.BitResetAndSet : Prop :=
  ∀ (b : Fin 8) (x : Loc8) (s : State),
    encode (Instr.res b x) = [0xCB, opXYZ 0b10 (BitVec.ofNat 3 b.val) x.index] ∧
    encode (Instr.set b x) = [0xCB, opXYZ 0b11 (BitVec.ofNat 3 b.val) x.index] ∧
    ∃ t u v w, exec (Instr.res b x) s = .next t ∧ exec (Instr.set b x) s = .next u ∧
      OnlyLoc s t x v ∧ OnlyLoc s u x w ∧
      (∀ j : Fin 8, v.getLsbD j.val = if j = b then false else (x.value s).getLsbD j.val) ∧
      (∀ j : Fin 8, w.getLsbD j.val = if j = b then true else (x.value s).getLsbD j.val) ∧
      t.flags = s.flags ∧ u.flags = s.flags ∧ t.sp = s.sp ∧ u.sp = s.sp ∧ Quiet s t ∧ Quiet s u ∧
      Retires (Instr.res b x) s t (x.cycles 2 4) ∧ Retires (Instr.set b x) s u (x.cycles 2 4)

/-- JP a16 goes to a16 at cost 4; JP cc,a16 goes there at cost 4 when the condition holds and otherwise past the
instruction at cost 3; JP HL goes to HL at cost 1; nothing else changes. Covers jp_a16, jp_nz_a16, jp_z_a16,
jp_nc_a16, jp_c_a16, jp_hl. (R451, R452, R453) -/
def Obligations.AbsoluteJumps : Prop :=
  ∀ (s : State) (k : Word),
    encode (.jp_a16 k) = [0xC3, lo k, hi k] ∧ encode .jp_hl = [0xE9] ∧
    (∃ t, exec (.jp_a16 k) s = .next t ∧ t.pc = k ∧ SameData s t ∧ Quiet s t ∧ Counts (.jp_a16 k) s t 4) ∧
    (∃ t, exec .jp_hl s = .next t ∧ t.pc = s.hl ∧ SameData s t ∧ Quiet s t ∧ Counts .jp_hl s t 1) ∧
    ∀ cc : Cond, encode (Instr.jp cc k) = [0b110#3 ++ cc.index ++ 0b010#3, lo k, hi k] ∧
      ∃ t, exec (Instr.jp cc k) s = .next t ∧ SameData s t ∧ Quiet s t ∧
        (CondHolds s cc → t.pc = k ∧ Counts (Instr.jp cc k) s t 4) ∧
        (¬ CondHolds s cc → RetiresNotTaken (Instr.jp cc k) s t 3)

/-- JR goes to the address past its two bytes plus the signed displacement modulo 65536, at cost 3; JR cc does so when the
condition holds, and otherwise goes past the instruction at cost JR_CC_NOT_TAKEN_CYCLES; nothing else changes. Covers
jr_e8, jr_nz_e8, jr_z_e8, jr_nc_e8, jr_c_e8. (R454, R455) -/
def Obligations.RelativeJumps : Prop :=
  ∀ (s : State) (e : Byte),
    encode (.jr_e8 e) = [0x18, e] ∧
    (∃ t, exec (.jr_e8 e) s = .next t ∧ IsDisplaced t.pc (s.pcAfter 2) e ∧ SameData s t ∧ Quiet s t ∧
      Counts (.jr_e8 e) s t 3) ∧
    ∀ cc : Cond, encode (Instr.jr cc e) = [0b001#3 ++ cc.index ++ 0b000#3, e] ∧
      ∃ t, exec (Instr.jr cc e) s = .next t ∧ SameData s t ∧ Quiet s t ∧
        (CondHolds s cc → IsDisplaced t.pc (s.pcAfter 2) e ∧ Counts (Instr.jr cc e) s t 3) ∧
        (¬ CondHolds s cc → RetiresNotTaken (Instr.jr cc e) s t s.cfg.jrCcNotTakenCycles)

/-- CALL and RST complete: the address past the instruction is pushed (the high byte written at SP-1, then the low byte at
SP-2, and on FlatRAM both read back), SP is lower by 2, the pc is the target, at cost 6 and 4; CALL cc not taken
writes no memory, leaves SP and costs 3; nothing else changes. Covers call_a16, call_nz_a16, call_z_a16, call_nc_a16,
call_c_a16, rst_00 to rst_38. (R456, R457, R461) -/
def Obligations.CallsAndRestarts : Prop :=
  ∀ s : State,
    let pushes := fun (t : State) (ret : Word) =>
      t.sp = s.sp - 2 ∧ Stores s t [(s.sp - 1, hi ret), (s.sp - 2, lo ret)] ∧
      Holds s t (s.sp - 1) (hi ret) ∧ Holds s t (s.sp - 2) (lo ret) ∧ SameRegs s t ∧ t.flags = s.flags ∧ Quiet s t
    (∀ k : Word, encode (.call_a16 k) = [0xCD, lo k, hi k] ∧
      ∃ t, exec (.call_a16 k) s = .next t ∧ pushes t (s.pcAfter 3) ∧ t.pc = k ∧ Counts (.call_a16 k) s t 6) ∧
    (∀ n : Fin 8, encode (Instr.rst n) = [opXYZ 0b11 (BitVec.ofNat 3 n.val) 0b111] ∧
      ∃ t, exec (Instr.rst n) s = .next t ∧ pushes t (s.pcAfter 1) ∧ t.pc = BitVec.ofNat 16 (8 * n.val) ∧
        Counts (Instr.rst n) s t 4) ∧
    (∀ (cc : Cond) (k : Word), encode (Instr.callCC cc k) = [0b110#3 ++ cc.index ++ 0b100#3, lo k, hi k] ∧
      ∃ t, exec (Instr.callCC cc k) s = .next t ∧
        (CondHolds s cc → pushes t (s.pcAfter 3) ∧ t.pc = k ∧ Counts (Instr.callCC cc k) s t 6) ∧
        (¬ CondHolds s cc → SameData s t ∧ Quiet s t ∧ RetiresNotTaken (Instr.callCC cc k) s t 3))

/-- RET, RETI and RET cc when its condition holds set the pc to the word at SP and raise SP by 2, at cost 4, 4 and 5; RETI
also sets IME and clears eiPending; RET cc not taken goes on past the instruction at cost 2 and leaves SP; no memory,
register, flag or other control bit changes. Covers ret, reti, ret_nz, ret_z, ret_nc, ret_c. (R458, R459, R460) -/
def Obligations.Returns : Prop :=
  ∀ s : State,
    let pops := fun (t : State) =>
      t.pc = join (s.read8 (s.sp + 1)) (s.read8 s.sp) ∧ t.sp = s.sp + 2 ∧ SameRegs s t ∧ t.flags = s.flags ∧
      SameMem s t ∧ t.halted = s.halted ∧ SameBlock s t
    encode .ret = [0xC9] ∧ encode .reti = [0xD9] ∧
    (∃ t, exec .ret s = .next t ∧ pops t ∧ SameControl s t ∧ Counts .ret s t 4) ∧
    (∃ t, exec .reti s = .next t ∧ pops t ∧ t.ime = true ∧ t.eiPending = false ∧ Counts .reti s t 4) ∧
    ∀ cc : Cond, encode (Instr.retCC cc) = [0b110#3 ++ cc.index ++ 0b000#3] ∧
      ∃ t, exec (Instr.retCC cc) s = .next t ∧ SameControl s t ∧
        (CondHolds s cc → pops t ∧ Counts (Instr.retCC cc) s t 5) ∧
        (¬ CondHolds s cc → SameData s t ∧ SameBlock s t ∧ RetiresNotTaken (Instr.retCC cc) s t 2)

/-- NOP changes nothing; DI clears IME and eiPending; EI sets eiPending when EI is delayed and IME otherwise, and leaves
the other; each costs 1 and changes nothing else. Covers nop, di, ei. (46_system.md R500, 46_system.md R503,
46_system.md R504) -/
def Obligations.NopAndInterruptEnableInstructions : Prop :=
  ∀ s : State, encode .nop = [0x00] ∧ encode .di = [0xF3] ∧ encode .ei = [0xFB] ∧
    (∃ t, exec .nop s = .next t ∧ SameData s t ∧ Quiet s t ∧ Retires .nop s t 1) ∧
    (∃ t, exec .di s = .next t ∧ t.ime = false ∧ t.eiPending = false ∧ t.halted = s.halted ∧
      SameData s t ∧ SameBlock s t ∧ Retires .di s t 1) ∧
    (∃ t, exec .ei s = .next t ∧
      (s.cfg.eiDelay = true → t.eiPending = true ∧ t.ime = s.ime) ∧
      (s.cfg.eiDelay = false → t.ime = true ∧ t.eiPending = s.eiPending) ∧ t.halted = s.halted ∧
      SameData s t ∧ SameBlock s t ∧ Retires .ei s t 1)

/-- HALT completes at cost 1 with the pc past it: with IME = 0, an enabled request pending and HALT_BUG true, it arms the
halt bug and does not halt; otherwise it halts; nothing else changes. Covers halt. (46_system.md R501) -/
def Obligations.HaltHaltsOrArmsTheHaltBug : Prop :=
  ∀ s : State, encode .halt = [0x76] ∧
    ∃ t, exec .halt s = .next t ∧
      (s.ime = false ∧ s.read8 0xFFFF &&& s.read8 0xFF0F &&& 0x1F ≠ 0 ∧ s.cfg.haltBug = true →
        t.haltBug = true ∧ t.halted = s.halted) ∧
      (¬ (s.ime = false ∧ s.read8 0xFFFF &&& s.read8 0xFF0F &&& 0x1F ≠ 0 ∧ s.cfg.haltBug = true) →
        t.haltBug = false ∧ t.halted = true) ∧
      t.pc = s.pcAfter 1 ∧ t.cycleCounter = s.cycleCounter + costOf s.cfg 0x76 1 ∧
      t.ime = s.ime ∧ t.eiPending = s.eiPending ∧ SameData s t ∧ SameBlock s t

/-- For every state, exec of STOP answers the fault Unsupported(0x10, pc) and exec of each of the eleven unassigned rows
answers IllegalOpcode(op, pc), the pc being still the address of the opcode; a call of step that meets one of them
returns that fault and changes nothing but the fault field. Covers stop and illegal_d3, _db, _dd, _e3, _e4, _eb, _ec,
_ed, _f4, _fc, _fd. (R502, R505) -/
def Obligations.StopAndIllegalOpcodesFault : Prop :=
  ∀ s : State, (encode .stop).head? = some 0x10 ∧ exec .stop s = .fault (.unsupported 0x10 s.pc) ∧
    illegalRows.map Prod.fst = [0xD3, 0xDB, 0xDD, 0xE3, 0xE4, 0xEB, 0xEC, 0xED, 0xF4, 0xFC, 0xFD] ∧
    (∀ x ∈ illegalRows, encode x.2 = [x.1] ∧ exec x.2 s = .fault (.illegalOpcode x.1 s.pc)) ∧
    (s.fault = none → s.halted = false → s.read8 s.pc = 0x10 →
      stepCall s = ({ s with fault := some (.unsupported 0x10 s.pc) }, .fault (.unsupported 0x10 s.pc))) ∧
    (∀ x ∈ illegalRows, s.fault = none → s.halted = false → s.read8 s.pc = x.1 →
      stepCall s = ({ s with fault := some (.illegalOpcode x.1 s.pc) }, .fault (.illegalOpcode x.1 s.pc)))
end

