-- ==== Sys2Proof/Laws/Bits.lean ====
section
/-! SUPPORT. Laws of the bit helpers and of F as a byte. -/

namespace Sys2Proof

@[simp] theorem hi_join (h l : Byte) : hi (join h l) = h := by
  ext i hi
  simp only [Sys2Proof.hi, join, BitVec.getElem_extractLsb', BitVec.getLsbD_append]
  simp [show ¬ (8 + i < 8) by omega, BitVec.getLsbD_eq_getElem hi]

@[simp] theorem lo_join (h l : Byte) : lo (join h l) = l := by
  ext i hi
  simp only [Sys2Proof.lo, join, BitVec.getElem_extractLsb', BitVec.getLsbD_append]
  simp [hi]

@[simp] theorem join_hi_lo (v : Word) : join (hi v) (lo v) = v := by
  apply BitVec.eq_of_getLsbD_eq
  intro i hi16
  simp only [Sys2Proof.hi, Sys2Proof.lo, join, BitVec.getLsbD_append, BitVec.getLsbD_extractLsb']
  by_cases h : i < 8
  · simp [h]
  · have h8 : 8 + (i - 8) = i := by omega
    have h2 : i - 8 < 8 := by omega
    simp [h, h8, h2]

namespace Machine

/-- F reads back the flags it was made of. -/
@[simp] theorem Flags.ofByte_toByte (f : Flags) : Flags.ofByte f.toByte = f := by
  obtain ⟨z, n, h, c⟩ := f
  cases z <;> cases n <;> cases h <;> cases c <;> rfl

end Machine

end Sys2Proof
end

