-- ==== Sys2Proof/Laws/Memory.lean ====
section
/-! SUPPORT. Laws of memory: a read after a write, and that every memory operation keeps the canonical form. -/

namespace Sys2Proof.Machine

theorem Memory.readAt_eraseAt_same (m : Memory) (n : Nat) : Memory.readAt (Memory.eraseAt m n) n = Memory.unlisted := by
  induction m with
  | nil => rfl
  | cons cell m ih =>
    obtain ⟨k, w⟩ := cell
    by_cases h : k = n
    · simpa [Memory.eraseAt, h] using ih
    · simpa [Memory.eraseAt, Memory.readAt, h] using ih

theorem Memory.readAt_eraseAt_other (m : Memory) {n k : Nat} (h : k ≠ n) :
    Memory.readAt (Memory.eraseAt m n) k = Memory.readAt m k := by
  induction m with
  | nil => rfl
  | cons cell m ih =>
    obtain ⟨j, w⟩ := cell
    by_cases hj : j = n
    · have hne : j ≠ k := fun e => h (e ▸ hj)
      simpa [Memory.eraseAt, Memory.readAt, hj, Ne.symm h] using ih
    · by_cases hk : j = k
      · simp [Memory.eraseAt, Memory.readAt, h, hk]
      · simpa [Memory.eraseAt, Memory.readAt, hj, hk] using ih

theorem Memory.readAt_insertAt_other (m : Memory) {n k : Nat} (v : Byte) (h : k ≠ n) :
    Memory.readAt (Memory.insertAt m n v) k = Memory.readAt m k := by
  induction m with
  | nil => simp [Memory.insertAt, Memory.readAt, Ne.symm h]
  | cons cell m ih =>
    obtain ⟨j, w⟩ := cell
    by_cases hlt : n < j
    · simp [Memory.insertAt, Memory.readAt, hlt, Ne.symm h]
    · by_cases hk : j = k
      · subst hk
        simp [Memory.insertAt, Memory.readAt, hlt]
      · simpa [Memory.insertAt, Memory.readAt, hlt, hk] using ih

/-- In a list without the key, the inserted cell is the one that is read. -/
theorem Memory.readAt_insertAt_same (m : Memory) (n : Nat) (v : Byte) (h : ∀ cell ∈ m, cell.1 ≠ n) :
    Memory.readAt (Memory.insertAt m n v) n = v := by
  induction m with
  | nil => simp [Memory.insertAt, Memory.readAt]
  | cons cell m ih =>
    obtain ⟨j, w⟩ := cell
    have hj : j ≠ n := h (j, w) (by simp)
    by_cases hlt : n < j
    · simp [Memory.insertAt, Memory.readAt, hlt]
    · simpa [Memory.insertAt, Memory.readAt, hlt, hj] using ih (fun c hc => h c (by simp [hc]))

theorem Memory.eraseAt_without (m : Memory) (n : Nat) : ∀ cell ∈ Memory.eraseAt m n, cell.1 ≠ n := by
  intro cell hc
  simp only [Memory.eraseAt, List.mem_filter, bne_iff_ne] at hc
  exact hc.2

theorem Memory.readAt_writeAt_same (m : Memory) (n : Nat) (v : Byte) :
    Memory.readAt (Memory.writeAt m n v) n = v := by
  unfold Memory.writeAt
  split
  · rename_i h
    rw [h]
    exact Memory.readAt_eraseAt_same m n
  · exact Memory.readAt_insertAt_same _ n v (Memory.eraseAt_without m n)

theorem Memory.readAt_writeAt_other (m : Memory) {n k : Nat} (v : Byte) (h : k ≠ n) :
    Memory.readAt (Memory.writeAt m n v) k = Memory.readAt m k := by
  unfold Memory.writeAt
  split
  · exact Memory.readAt_eraseAt_other m h
  · rw [Memory.readAt_insertAt_other _ v h, Memory.readAt_eraseAt_other m h]

/-- A read after a write to the same address gives the value written. -/
@[simp] theorem Memory.read_write_same (m : Memory) (a : Word) (v : Byte) : (m.write a v).read a = v :=
  Memory.readAt_writeAt_same m a.toNat v

/-- A write leaves every other address alone. -/
theorem Memory.read_write_other (m : Memory) {a k : Word} (v : Byte) (h : k ≠ a) : (m.write a v).read k = m.read k :=
  Memory.readAt_writeAt_other m v (fun e => h (BitVec.eq_of_toNat_eq e))

/-- A read after a write, in one equation. -/
theorem Memory.read_write (m : Memory) (a k : Word) (v : Byte) :
    (m.write a v).read k = if k = a then v else m.read k := by
  split
  · rename_i h
    rw [h, Memory.read_write_same]
  · rename_i h
    exact Memory.read_write_other m v h

/-! ## The canonical form -/

theorem Memory.wfFrom_weaken {m : Memory} {lo lo' : Nat} (h : lo' ≤ lo) (hm : Memory.wfFrom lo m = true) :
    Memory.wfFrom lo' m = true := by
  cases m with
  | nil => rfl
  | cons cell m =>
    obtain ⟨k, w⟩ := cell
    simp only [Memory.wfFrom, Bool.and_eq_true, decide_eq_true_eq] at hm ⊢
    exact ⟨⟨⟨by omega, hm.1.1.2⟩, hm.1.2⟩, hm.2⟩

theorem Memory.wfFrom_eraseAt {m : Memory} (n : Nat) : ∀ {lo : Nat}, Memory.wfFrom lo m = true →
    Memory.wfFrom lo (Memory.eraseAt m n) = true := by
  induction m with
  | nil => intro lo h; exact h
  | cons cell m ih =>
    intro lo h
    obtain ⟨k, w⟩ := cell
    simp only [Memory.wfFrom, Bool.and_eq_true, decide_eq_true_eq] at h
    by_cases hk : k = n
    · have he : Memory.eraseAt ((k, w) :: m) n = Memory.eraseAt m n := by simp [Memory.eraseAt, hk]
      rw [he]
      exact Memory.wfFrom_weaken (by omega) (ih h.2)
    · have he : Memory.eraseAt ((k, w) :: m) n = (k, w) :: Memory.eraseAt m n := by simp [Memory.eraseAt, hk]
      rw [he]
      simp only [Memory.wfFrom, Bool.and_eq_true, decide_eq_true_eq]
      exact ⟨h.1, ih h.2⟩

theorem Memory.wfFrom_insertAt {m : Memory} {n : Nat} {v : Byte} (hn : n < 65536) (hv : v ≠ Memory.unlisted)
    (hk : ∀ cell ∈ m, cell.1 ≠ n) : ∀ {lo : Nat}, lo ≤ n → Memory.wfFrom lo m = true →
    Memory.wfFrom lo (Memory.insertAt m n v) = true := by
  induction m with
  | nil =>
    intro lo hlo _
    simp [Memory.insertAt, Memory.wfFrom, hlo, hn, hv]
  | cons cell m ih =>
    intro lo hlo h
    obtain ⟨k, w⟩ := cell
    have hne : k ≠ n := hk (k, w) (by simp)
    simp only [Memory.wfFrom, Bool.and_eq_true, decide_eq_true_eq] at h
    by_cases hlt : n < k
    · simp only [Memory.insertAt, if_pos hlt, Memory.wfFrom, Bool.and_eq_true, decide_eq_true_eq]
      exact ⟨⟨⟨hlo, hn⟩, hv⟩, ⟨⟨by omega, h.1.1.2⟩, h.1.2⟩, h.2⟩
    · simp only [Memory.insertAt, if_neg hlt, Memory.wfFrom, Bool.and_eq_true, decide_eq_true_eq]
      exact ⟨h.1, ih (fun c hc => hk c (by simp [hc])) (by omega) h.2⟩

/-- A write keeps the canonical form. -/
theorem Memory.wf_write {m : Memory} (a : Word) (v : Byte) (h : m.wf = true) : (m.write a v).wf = true := by
  unfold Memory.wf Memory.write Memory.writeAt at *
  split
  · exact Memory.wfFrom_eraseAt _ h
  · rename_i hv
    exact Memory.wfFrom_insertAt a.isLt hv (Memory.eraseAt_without _ _) (Nat.zero_le _) (Memory.wfFrom_eraseAt _ h)

/-- A write on any bus keeps the canonical form of FlatRAM's bytes. -/
theorem Store.wf_write {m : Store} (bus : MemoryBus) (a : Word) (v : Byte) (h : m.wf = true) :
    (m.write bus a v).wf = true := by
  cases bus with
  | flatRAM => exact Memory.wf_write a v h
  | platform k => exact h

/-- FlatRAM answers with the last value written. -/
theorem Store.read_write {bus : MemoryBus} (hb : bus = .flatRAM) (m : Store) (a k : Word) (v : Byte) :
    (m.write bus a v).read bus k = if k = a then v else m.read bus k := by
  subst hb
  exact Memory.read_write m.ram a k v

/-- A key below the bound of a canonical list is not listed. -/
theorem Memory.readAt_below {m : Memory} : ∀ {lo n : Nat}, Memory.wfFrom lo m = true → n < lo →
    Memory.readAt m n = Memory.unlisted := by
  induction m with
  | nil => intro lo n _ _; rfl
  | cons cell m ih =>
    intro lo n h hn
    obtain ⟨k, w⟩ := cell
    simp only [Memory.wfFrom, Bool.and_eq_true, decide_eq_true_eq] at h
    have hne : k ≠ n := by omega
    simp only [Memory.readAt, if_neg hne]
    exact ih h.2 (by omega)

theorem Memory.eq_of_readAt {m : Memory} : ∀ {m' : Memory} {lo : Nat}, Memory.wfFrom lo m = true →
    Memory.wfFrom lo m' = true → (∀ n, Memory.readAt m n = Memory.readAt m' n) → m = m' := by
  induction m with
  | nil =>
    intro m' lo _ h' hr
    cases m' with
    | nil => rfl
    | cons cell m' =>
      obtain ⟨k, w⟩ := cell
      simp only [Memory.wfFrom, Bool.and_eq_true, decide_eq_true_eq] at h'
      have := hr k
      simp only [Memory.readAt, if_true] at this
      exact absurd this.symm h'.1.2
  | cons cell m ih =>
    intro m' lo h h' hr
    obtain ⟨k, w⟩ := cell
    have h0 := h
    simp only [Memory.wfFrom, Bool.and_eq_true, decide_eq_true_eq] at h
    cases m' with
    | nil =>
      have := hr k
      simp only [Memory.readAt, if_true] at this
      exact absurd this h.1.2
    | cons cell' m' =>
      obtain ⟨k', w'⟩ := cell'
      have h0' := h'
      simp only [Memory.wfFrom, Bool.and_eq_true, decide_eq_true_eq] at h'
      have hk : k = k' := by
        by_contra hne
        rcases Nat.lt_or_gt_of_ne hne with hlt | hlt
        · have hb : Memory.readAt ((k', w') :: m') k = Memory.unlisted := by
            simp only [Memory.readAt, if_neg (Ne.symm hne)]
            exact Memory.readAt_below h'.2 (by omega)
          have := hr k
          rw [hb] at this
          simp only [Memory.readAt, if_true] at this
          exact h.1.2 this
        · have hb : Memory.readAt ((k, w) :: m) k' = Memory.unlisted := by
            simp only [Memory.readAt, if_neg hne]
            exact Memory.readAt_below h.2 (by omega)
          have := hr k'
          rw [hb] at this
          simp only [Memory.readAt, if_true] at this
          exact h'.1.2 this.symm
      subst hk
      have hw : w = w' := by
        have := hr k
        simpa only [Memory.readAt, if_true] using this
      subst hw
      congr 1
      refine ih h.2 h'.2 (fun n => ?_)
      by_cases hn : k = n
      · rw [Memory.readAt_below h.2 (by omega), Memory.readAt_below h'.2 (by omega)]
      · have := hr n
        simpa only [Memory.readAt, if_neg hn] using this

/-- A key that is no 16-bit address is not listed. -/
theorem Memory.readAt_above {m : Memory} : ∀ {lo n : Nat}, Memory.wfFrom lo m = true → 65536 ≤ n →
    Memory.readAt m n = Memory.unlisted := by
  induction m with
  | nil => intro lo n _ _; rfl
  | cons cell m ih =>
    intro lo n h hn
    obtain ⟨k, w⟩ := cell
    simp only [Memory.wfFrom, Bool.and_eq_true, decide_eq_true_eq] at h
    have hne : k ≠ n := by omega
    simp only [Memory.readAt, if_neg hne]
    exact ih h.2 hn

/-- Two memories in canonical form that read alike at every address are equal. -/
theorem Memory.eq_of_read {m m' : Memory} (h : m.wf = true) (h' : m'.wf = true) (hr : ∀ a, m.read a = m'.read a) :
    m = m' := by
  refine Memory.eq_of_readAt h h' (fun n => ?_)
  by_cases hn : n < 65536
  · have := hr (BitVec.ofNat 16 n)
    simpa [Memory.read, Nat.mod_eq_of_lt hn] using this
  · rw [Memory.readAt_above h (by omega), Memory.readAt_above h' (by omega)]

end Sys2Proof.Machine
end

