-- ==== Sys2Proof/Laws/State.lean ====
section
/-! SUPPORT. One lemma per field per update of the state: what an operation leaves alone, and the fields it sets. A proof
rewrites with these and does not unfold a record update. -/

namespace Sys2Proof.Machine

variable (s : State)

/-! ## past -/

@[simp] theorem State.past_a (n : Nat) : (s.past n).a = s.a := rfl
@[simp] theorem State.past_flags (n : Nat) : (s.past n).flags = s.flags := rfl
@[simp] theorem State.past_b (n : Nat) : (s.past n).b = s.b := rfl
@[simp] theorem State.past_c (n : Nat) : (s.past n).c = s.c := rfl
@[simp] theorem State.past_d (n : Nat) : (s.past n).d = s.d := rfl
@[simp] theorem State.past_e (n : Nat) : (s.past n).e = s.e := rfl
@[simp] theorem State.past_h (n : Nat) : (s.past n).h = s.h := rfl
@[simp] theorem State.past_l (n : Nat) : (s.past n).l = s.l := rfl
@[simp] theorem State.past_sp (n : Nat) : (s.past n).sp = s.sp := rfl
@[simp] theorem State.past_ime (n : Nat) : (s.past n).ime = s.ime := rfl
@[simp] theorem State.past_halted (n : Nat) : (s.past n).halted = s.halted := rfl
@[simp] theorem State.past_eiPending (n : Nat) : (s.past n).eiPending = s.eiPending := rfl
@[simp] theorem State.past_divCounter (n : Nat) : (s.past n).divCounter = s.divCounter := rfl
@[simp] theorem State.past_timaCounter (n : Nat) : (s.past n).timaCounter = s.timaCounter := rfl
@[simp] theorem State.past_cycleCounter (n : Nat) : (s.past n).cycleCounter = s.cycleCounter := rfl
@[simp] theorem State.past_fault (n : Nat) : (s.past n).fault = s.fault := rfl
@[simp] theorem State.past_mem (n : Nat) : (s.past n).mem = s.mem := rfl
@[simp] theorem State.past_cfg (n : Nat) : (s.past n).cfg = s.cfg := rfl
@[simp] theorem State.past_read8 (n : Nat) (j : Word) : (s.past n).read8 j = s.read8 j := rfl
@[simp] theorem State.past_reg8 (n : Nat) (q : Reg8) : (s.past n).reg8 q = s.reg8 q := by cases q <;> rfl
@[simp] theorem State.past_hl (n : Nat) : (s.past n).hl = s.hl := rfl

/-! ## charge -/

@[simp] theorem State.charge_a (n : Nat) : (s.charge n).a = s.a := rfl
@[simp] theorem State.charge_flags (n : Nat) : (s.charge n).flags = s.flags := rfl
@[simp] theorem State.charge_b (n : Nat) : (s.charge n).b = s.b := rfl
@[simp] theorem State.charge_c (n : Nat) : (s.charge n).c = s.c := rfl
@[simp] theorem State.charge_d (n : Nat) : (s.charge n).d = s.d := rfl
@[simp] theorem State.charge_e (n : Nat) : (s.charge n).e = s.e := rfl
@[simp] theorem State.charge_h (n : Nat) : (s.charge n).h = s.h := rfl
@[simp] theorem State.charge_l (n : Nat) : (s.charge n).l = s.l := rfl
@[simp] theorem State.charge_sp (n : Nat) : (s.charge n).sp = s.sp := rfl
@[simp] theorem State.charge_pc (n : Nat) : (s.charge n).pc = s.pc := rfl
@[simp] theorem State.charge_ime (n : Nat) : (s.charge n).ime = s.ime := rfl
@[simp] theorem State.charge_halted (n : Nat) : (s.charge n).halted = s.halted := rfl
@[simp] theorem State.charge_haltBug (n : Nat) : (s.charge n).haltBug = s.haltBug := rfl
@[simp] theorem State.charge_eiPending (n : Nat) : (s.charge n).eiPending = s.eiPending := rfl
@[simp] theorem State.charge_divCounter (n : Nat) : (s.charge n).divCounter = s.divCounter := rfl
@[simp] theorem State.charge_timaCounter (n : Nat) : (s.charge n).timaCounter = s.timaCounter := rfl
@[simp] theorem State.charge_fault (n : Nat) : (s.charge n).fault = s.fault := rfl
@[simp] theorem State.charge_mem (n : Nat) : (s.charge n).mem = s.mem := rfl
@[simp] theorem State.charge_cfg (n : Nat) : (s.charge n).cfg = s.cfg := rfl
@[simp] theorem State.charge_read8 (n : Nat) (j : Word) : (s.charge n).read8 j = s.read8 j := rfl
@[simp] theorem State.charge_reg8 (n : Nat) (q : Reg8) : (s.charge n).reg8 q = s.reg8 q := by cases q <;> rfl
@[simp] theorem State.charge_hl (n : Nat) : (s.charge n).hl = s.hl := rfl

/-! ## write8 -/

@[simp] theorem State.write8_a (k : Word) (v : Byte) : (s.write8 k v).a = s.a := rfl
@[simp] theorem State.write8_flags (k : Word) (v : Byte) : (s.write8 k v).flags = s.flags := rfl
@[simp] theorem State.write8_b (k : Word) (v : Byte) : (s.write8 k v).b = s.b := rfl
@[simp] theorem State.write8_c (k : Word) (v : Byte) : (s.write8 k v).c = s.c := rfl
@[simp] theorem State.write8_d (k : Word) (v : Byte) : (s.write8 k v).d = s.d := rfl
@[simp] theorem State.write8_e (k : Word) (v : Byte) : (s.write8 k v).e = s.e := rfl
@[simp] theorem State.write8_h (k : Word) (v : Byte) : (s.write8 k v).h = s.h := rfl
@[simp] theorem State.write8_l (k : Word) (v : Byte) : (s.write8 k v).l = s.l := rfl
@[simp] theorem State.write8_sp (k : Word) (v : Byte) : (s.write8 k v).sp = s.sp := rfl
@[simp] theorem State.write8_pc (k : Word) (v : Byte) : (s.write8 k v).pc = s.pc := rfl
@[simp] theorem State.write8_ime (k : Word) (v : Byte) : (s.write8 k v).ime = s.ime := rfl
@[simp] theorem State.write8_halted (k : Word) (v : Byte) : (s.write8 k v).halted = s.halted := rfl
@[simp] theorem State.write8_haltBug (k : Word) (v : Byte) : (s.write8 k v).haltBug = s.haltBug := rfl
@[simp] theorem State.write8_eiPending (k : Word) (v : Byte) : (s.write8 k v).eiPending = s.eiPending := rfl
@[simp] theorem State.write8_divCounter (k : Word) (v : Byte) : (s.write8 k v).divCounter = s.divCounter := rfl
@[simp] theorem State.write8_timaCounter (k : Word) (v : Byte) : (s.write8 k v).timaCounter = s.timaCounter := rfl
@[simp] theorem State.write8_cycleCounter (k : Word) (v : Byte) : (s.write8 k v).cycleCounter = s.cycleCounter := rfl
@[simp] theorem State.write8_fault (k : Word) (v : Byte) : (s.write8 k v).fault = s.fault := rfl
@[simp] theorem State.write8_cfg (k : Word) (v : Byte) : (s.write8 k v).cfg = s.cfg := rfl
@[simp] theorem State.write8_reg8 (k : Word) (v : Byte) (q : Reg8) : (s.write8 k v).reg8 q = s.reg8 q := by cases q <;> rfl
@[simp] theorem State.write8_hl (k : Word) (v : Byte) : (s.write8 k v).hl = s.hl := rfl

/-! ## writeWord -/

@[simp] theorem State.writeWord_a (k v : Word) : (s.writeWord k v).a = s.a := rfl
@[simp] theorem State.writeWord_flags (k v : Word) : (s.writeWord k v).flags = s.flags := rfl
@[simp] theorem State.writeWord_b (k v : Word) : (s.writeWord k v).b = s.b := rfl
@[simp] theorem State.writeWord_c (k v : Word) : (s.writeWord k v).c = s.c := rfl
@[simp] theorem State.writeWord_d (k v : Word) : (s.writeWord k v).d = s.d := rfl
@[simp] theorem State.writeWord_e (k v : Word) : (s.writeWord k v).e = s.e := rfl
@[simp] theorem State.writeWord_h (k v : Word) : (s.writeWord k v).h = s.h := rfl
@[simp] theorem State.writeWord_l (k v : Word) : (s.writeWord k v).l = s.l := rfl
@[simp] theorem State.writeWord_sp (k v : Word) : (s.writeWord k v).sp = s.sp := rfl
@[simp] theorem State.writeWord_pc (k v : Word) : (s.writeWord k v).pc = s.pc := rfl
@[simp] theorem State.writeWord_ime (k v : Word) : (s.writeWord k v).ime = s.ime := rfl
@[simp] theorem State.writeWord_halted (k v : Word) : (s.writeWord k v).halted = s.halted := rfl
@[simp] theorem State.writeWord_haltBug (k v : Word) : (s.writeWord k v).haltBug = s.haltBug := rfl
@[simp] theorem State.writeWord_eiPending (k v : Word) : (s.writeWord k v).eiPending = s.eiPending := rfl
@[simp] theorem State.writeWord_divCounter (k v : Word) : (s.writeWord k v).divCounter = s.divCounter := rfl
@[simp] theorem State.writeWord_timaCounter (k v : Word) : (s.writeWord k v).timaCounter = s.timaCounter := rfl
@[simp] theorem State.writeWord_cycleCounter (k v : Word) : (s.writeWord k v).cycleCounter = s.cycleCounter := rfl
@[simp] theorem State.writeWord_fault (k v : Word) : (s.writeWord k v).fault = s.fault := rfl
@[simp] theorem State.writeWord_cfg (k v : Word) : (s.writeWord k v).cfg = s.cfg := rfl
@[simp] theorem State.writeWord_reg8 (k v : Word) (q : Reg8) : (s.writeWord k v).reg8 q = s.reg8 q := by cases q <;> rfl
@[simp] theorem State.writeWord_hl (k v : Word) : (s.writeWord k v).hl = s.hl := rfl

/-! ## popped -/

@[simp] theorem State.popped_a : (s.popped).a = s.a := rfl
@[simp] theorem State.popped_flags : (s.popped).flags = s.flags := rfl
@[simp] theorem State.popped_b : (s.popped).b = s.b := rfl
@[simp] theorem State.popped_c : (s.popped).c = s.c := rfl
@[simp] theorem State.popped_d : (s.popped).d = s.d := rfl
@[simp] theorem State.popped_e : (s.popped).e = s.e := rfl
@[simp] theorem State.popped_h : (s.popped).h = s.h := rfl
@[simp] theorem State.popped_l : (s.popped).l = s.l := rfl
@[simp] theorem State.popped_pc : (s.popped).pc = s.pc := rfl
@[simp] theorem State.popped_ime : (s.popped).ime = s.ime := rfl
@[simp] theorem State.popped_halted : (s.popped).halted = s.halted := rfl
@[simp] theorem State.popped_haltBug : (s.popped).haltBug = s.haltBug := rfl
@[simp] theorem State.popped_eiPending : (s.popped).eiPending = s.eiPending := rfl
@[simp] theorem State.popped_divCounter : (s.popped).divCounter = s.divCounter := rfl
@[simp] theorem State.popped_timaCounter : (s.popped).timaCounter = s.timaCounter := rfl
@[simp] theorem State.popped_cycleCounter : (s.popped).cycleCounter = s.cycleCounter := rfl
@[simp] theorem State.popped_fault : (s.popped).fault = s.fault := rfl
@[simp] theorem State.popped_mem : (s.popped).mem = s.mem := rfl
@[simp] theorem State.popped_cfg : (s.popped).cfg = s.cfg := rfl
@[simp] theorem State.popped_read8 (j : Word) : (s.popped).read8 j = s.read8 j := rfl
@[simp] theorem State.popped_reg8 (q : Reg8) : (s.popped).reg8 q = s.reg8 q := by cases q <;> rfl
@[simp] theorem State.popped_hl : (s.popped).hl = s.hl := rfl

/-! ## push16 -/

@[simp] theorem State.push16_a (v : Word) : (s.push16 v).a = s.a := rfl
@[simp] theorem State.push16_flags (v : Word) : (s.push16 v).flags = s.flags := rfl
@[simp] theorem State.push16_b (v : Word) : (s.push16 v).b = s.b := rfl
@[simp] theorem State.push16_c (v : Word) : (s.push16 v).c = s.c := rfl
@[simp] theorem State.push16_d (v : Word) : (s.push16 v).d = s.d := rfl
@[simp] theorem State.push16_e (v : Word) : (s.push16 v).e = s.e := rfl
@[simp] theorem State.push16_h (v : Word) : (s.push16 v).h = s.h := rfl
@[simp] theorem State.push16_l (v : Word) : (s.push16 v).l = s.l := rfl
@[simp] theorem State.push16_pc (v : Word) : (s.push16 v).pc = s.pc := rfl
@[simp] theorem State.push16_ime (v : Word) : (s.push16 v).ime = s.ime := rfl
@[simp] theorem State.push16_halted (v : Word) : (s.push16 v).halted = s.halted := rfl
@[simp] theorem State.push16_haltBug (v : Word) : (s.push16 v).haltBug = s.haltBug := rfl
@[simp] theorem State.push16_eiPending (v : Word) : (s.push16 v).eiPending = s.eiPending := rfl
@[simp] theorem State.push16_divCounter (v : Word) : (s.push16 v).divCounter = s.divCounter := rfl
@[simp] theorem State.push16_timaCounter (v : Word) : (s.push16 v).timaCounter = s.timaCounter := rfl
@[simp] theorem State.push16_cycleCounter (v : Word) : (s.push16 v).cycleCounter = s.cycleCounter := rfl
@[simp] theorem State.push16_fault (v : Word) : (s.push16 v).fault = s.fault := rfl
@[simp] theorem State.push16_cfg (v : Word) : (s.push16 v).cfg = s.cfg := rfl
@[simp] theorem State.push16_reg8 (v : Word) (q : Reg8) : (s.push16 v).reg8 q = s.reg8 q := by cases q <;> rfl
@[simp] theorem State.push16_hl (v : Word) : (s.push16 v).hl = s.hl := rfl

/-! ## setHL -/

@[simp] theorem State.setHL_a (v : Word) : (s.setHL v).a = s.a := rfl
@[simp] theorem State.setHL_flags (v : Word) : (s.setHL v).flags = s.flags := rfl
@[simp] theorem State.setHL_b (v : Word) : (s.setHL v).b = s.b := rfl
@[simp] theorem State.setHL_c (v : Word) : (s.setHL v).c = s.c := rfl
@[simp] theorem State.setHL_d (v : Word) : (s.setHL v).d = s.d := rfl
@[simp] theorem State.setHL_e (v : Word) : (s.setHL v).e = s.e := rfl
@[simp] theorem State.setHL_sp (v : Word) : (s.setHL v).sp = s.sp := rfl
@[simp] theorem State.setHL_pc (v : Word) : (s.setHL v).pc = s.pc := rfl
@[simp] theorem State.setHL_ime (v : Word) : (s.setHL v).ime = s.ime := rfl
@[simp] theorem State.setHL_halted (v : Word) : (s.setHL v).halted = s.halted := rfl
@[simp] theorem State.setHL_haltBug (v : Word) : (s.setHL v).haltBug = s.haltBug := rfl
@[simp] theorem State.setHL_eiPending (v : Word) : (s.setHL v).eiPending = s.eiPending := rfl
@[simp] theorem State.setHL_divCounter (v : Word) : (s.setHL v).divCounter = s.divCounter := rfl
@[simp] theorem State.setHL_timaCounter (v : Word) : (s.setHL v).timaCounter = s.timaCounter := rfl
@[simp] theorem State.setHL_cycleCounter (v : Word) : (s.setHL v).cycleCounter = s.cycleCounter := rfl
@[simp] theorem State.setHL_fault (v : Word) : (s.setHL v).fault = s.fault := rfl
@[simp] theorem State.setHL_mem (v : Word) : (s.setHL v).mem = s.mem := rfl
@[simp] theorem State.setHL_cfg (v : Word) : (s.setHL v).cfg = s.cfg := rfl
@[simp] theorem State.setHL_read8 (v : Word) (j : Word) : (s.setHL v).read8 j = s.read8 j := rfl

/-! ## setReg8 -/

@[simp] theorem State.setReg8_flags (r : Reg8) (v : Byte) : (s.setReg8 r v).flags = s.flags := by cases r <;> rfl
@[simp] theorem State.setReg8_sp (r : Reg8) (v : Byte) : (s.setReg8 r v).sp = s.sp := by cases r <;> rfl
@[simp] theorem State.setReg8_pc (r : Reg8) (v : Byte) : (s.setReg8 r v).pc = s.pc := by cases r <;> rfl
@[simp] theorem State.setReg8_ime (r : Reg8) (v : Byte) : (s.setReg8 r v).ime = s.ime := by cases r <;> rfl
@[simp] theorem State.setReg8_halted (r : Reg8) (v : Byte) : (s.setReg8 r v).halted = s.halted := by cases r <;> rfl
@[simp] theorem State.setReg8_haltBug (r : Reg8) (v : Byte) : (s.setReg8 r v).haltBug = s.haltBug := by cases r <;> rfl
@[simp] theorem State.setReg8_eiPending (r : Reg8) (v : Byte) : (s.setReg8 r v).eiPending = s.eiPending := by cases r <;> rfl
@[simp] theorem State.setReg8_divCounter (r : Reg8) (v : Byte) : (s.setReg8 r v).divCounter = s.divCounter := by cases r <;> rfl
@[simp] theorem State.setReg8_timaCounter (r : Reg8) (v : Byte) : (s.setReg8 r v).timaCounter = s.timaCounter := by cases r <;> rfl
@[simp] theorem State.setReg8_cycleCounter (r : Reg8) (v : Byte) : (s.setReg8 r v).cycleCounter = s.cycleCounter := by cases r <;> rfl
@[simp] theorem State.setReg8_fault (r : Reg8) (v : Byte) : (s.setReg8 r v).fault = s.fault := by cases r <;> rfl
@[simp] theorem State.setReg8_mem (r : Reg8) (v : Byte) : (s.setReg8 r v).mem = s.mem := by cases r <;> rfl
@[simp] theorem State.setReg8_cfg (r : Reg8) (v : Byte) : (s.setReg8 r v).cfg = s.cfg := by cases r <;> rfl
@[simp] theorem State.setReg8_read8 (r : Reg8) (v : Byte) (j : Word) : (s.setReg8 r v).read8 j = s.read8 j := by cases r <;> rfl

/-! ## setReg16 -/

@[simp] theorem State.setReg16_a (r : Reg16) (v : Word) : (s.setReg16 r v).a = s.a := by cases r <;> rfl
@[simp] theorem State.setReg16_flags (r : Reg16) (v : Word) : (s.setReg16 r v).flags = s.flags := by cases r <;> rfl
@[simp] theorem State.setReg16_pc (r : Reg16) (v : Word) : (s.setReg16 r v).pc = s.pc := by cases r <;> rfl
@[simp] theorem State.setReg16_ime (r : Reg16) (v : Word) : (s.setReg16 r v).ime = s.ime := by cases r <;> rfl
@[simp] theorem State.setReg16_halted (r : Reg16) (v : Word) : (s.setReg16 r v).halted = s.halted := by cases r <;> rfl
@[simp] theorem State.setReg16_haltBug (r : Reg16) (v : Word) : (s.setReg16 r v).haltBug = s.haltBug := by cases r <;> rfl
@[simp] theorem State.setReg16_eiPending (r : Reg16) (v : Word) : (s.setReg16 r v).eiPending = s.eiPending := by cases r <;> rfl
@[simp] theorem State.setReg16_divCounter (r : Reg16) (v : Word) : (s.setReg16 r v).divCounter = s.divCounter := by cases r <;> rfl
@[simp] theorem State.setReg16_timaCounter (r : Reg16) (v : Word) : (s.setReg16 r v).timaCounter = s.timaCounter := by cases r <;> rfl
@[simp] theorem State.setReg16_cycleCounter (r : Reg16) (v : Word) : (s.setReg16 r v).cycleCounter = s.cycleCounter := by cases r <;> rfl
@[simp] theorem State.setReg16_fault (r : Reg16) (v : Word) : (s.setReg16 r v).fault = s.fault := by cases r <;> rfl
@[simp] theorem State.setReg16_mem (r : Reg16) (v : Word) : (s.setReg16 r v).mem = s.mem := by cases r <;> rfl
@[simp] theorem State.setReg16_cfg (r : Reg16) (v : Word) : (s.setReg16 r v).cfg = s.cfg := by cases r <;> rfl
@[simp] theorem State.setReg16_read8 (r : Reg16) (v : Word) (j : Word) : (s.setReg16 r v).read8 j = s.read8 j := by cases r <;> rfl

/-! ## setRegStk -/

@[simp] theorem State.setRegStk_sp (r : RegStk) (v : Word) : (s.setRegStk r v).sp = s.sp := by cases r <;> rfl
@[simp] theorem State.setRegStk_pc (r : RegStk) (v : Word) : (s.setRegStk r v).pc = s.pc := by cases r <;> rfl
@[simp] theorem State.setRegStk_ime (r : RegStk) (v : Word) : (s.setRegStk r v).ime = s.ime := by cases r <;> rfl
@[simp] theorem State.setRegStk_halted (r : RegStk) (v : Word) : (s.setRegStk r v).halted = s.halted := by cases r <;> rfl
@[simp] theorem State.setRegStk_haltBug (r : RegStk) (v : Word) : (s.setRegStk r v).haltBug = s.haltBug := by cases r <;> rfl
@[simp] theorem State.setRegStk_eiPending (r : RegStk) (v : Word) : (s.setRegStk r v).eiPending = s.eiPending := by cases r <;> rfl
@[simp] theorem State.setRegStk_divCounter (r : RegStk) (v : Word) : (s.setRegStk r v).divCounter = s.divCounter := by cases r <;> rfl
@[simp] theorem State.setRegStk_timaCounter (r : RegStk) (v : Word) : (s.setRegStk r v).timaCounter = s.timaCounter := by cases r <;> rfl
@[simp] theorem State.setRegStk_cycleCounter (r : RegStk) (v : Word) : (s.setRegStk r v).cycleCounter = s.cycleCounter := by cases r <;> rfl
@[simp] theorem State.setRegStk_fault (r : RegStk) (v : Word) : (s.setRegStk r v).fault = s.fault := by cases r <;> rfl
@[simp] theorem State.setRegStk_mem (r : RegStk) (v : Word) : (s.setRegStk r v).mem = s.mem := by cases r <;> rfl
@[simp] theorem State.setRegStk_cfg (r : RegStk) (v : Word) : (s.setRegStk r v).cfg = s.cfg := by cases r <;> rfl
@[simp] theorem State.setRegStk_read8 (r : RegStk) (v : Word) (j : Word) : (s.setRegStk r v).read8 j = s.read8 j := by cases r <;> rfl

/-! ## alu -/

@[simp] theorem State.alu_b (op : AluOp) (v : Byte) : (s.alu op v).b = s.b := rfl
@[simp] theorem State.alu_c (op : AluOp) (v : Byte) : (s.alu op v).c = s.c := rfl
@[simp] theorem State.alu_d (op : AluOp) (v : Byte) : (s.alu op v).d = s.d := rfl
@[simp] theorem State.alu_e (op : AluOp) (v : Byte) : (s.alu op v).e = s.e := rfl
@[simp] theorem State.alu_h (op : AluOp) (v : Byte) : (s.alu op v).h = s.h := rfl
@[simp] theorem State.alu_l (op : AluOp) (v : Byte) : (s.alu op v).l = s.l := rfl
@[simp] theorem State.alu_sp (op : AluOp) (v : Byte) : (s.alu op v).sp = s.sp := rfl
@[simp] theorem State.alu_pc (op : AluOp) (v : Byte) : (s.alu op v).pc = s.pc := rfl
@[simp] theorem State.alu_ime (op : AluOp) (v : Byte) : (s.alu op v).ime = s.ime := rfl
@[simp] theorem State.alu_halted (op : AluOp) (v : Byte) : (s.alu op v).halted = s.halted := rfl
@[simp] theorem State.alu_haltBug (op : AluOp) (v : Byte) : (s.alu op v).haltBug = s.haltBug := rfl
@[simp] theorem State.alu_eiPending (op : AluOp) (v : Byte) : (s.alu op v).eiPending = s.eiPending := rfl
@[simp] theorem State.alu_divCounter (op : AluOp) (v : Byte) : (s.alu op v).divCounter = s.divCounter := rfl
@[simp] theorem State.alu_timaCounter (op : AluOp) (v : Byte) : (s.alu op v).timaCounter = s.timaCounter := rfl
@[simp] theorem State.alu_cycleCounter (op : AluOp) (v : Byte) : (s.alu op v).cycleCounter = s.cycleCounter := rfl
@[simp] theorem State.alu_fault (op : AluOp) (v : Byte) : (s.alu op v).fault = s.fault := rfl
@[simp] theorem State.alu_mem (op : AluOp) (v : Byte) : (s.alu op v).mem = s.mem := rfl
@[simp] theorem State.alu_cfg (op : AluOp) (v : Byte) : (s.alu op v).cfg = s.cfg := rfl
@[simp] theorem State.alu_read8 (op : AluOp) (v : Byte) (j : Word) : (s.alu op v).read8 j = s.read8 j := rfl
@[simp] theorem State.alu_hl (op : AluOp) (v : Byte) : (s.alu op v).hl = s.hl := rfl

/-! ## putReg -/

@[simp] theorem State.putReg_sp (r : Reg8) (x : Alu8) : (s.putReg r x).sp = s.sp := by cases r <;> rfl
@[simp] theorem State.putReg_pc (r : Reg8) (x : Alu8) : (s.putReg r x).pc = s.pc := by cases r <;> rfl
@[simp] theorem State.putReg_ime (r : Reg8) (x : Alu8) : (s.putReg r x).ime = s.ime := by cases r <;> rfl
@[simp] theorem State.putReg_halted (r : Reg8) (x : Alu8) : (s.putReg r x).halted = s.halted := by cases r <;> rfl
@[simp] theorem State.putReg_haltBug (r : Reg8) (x : Alu8) : (s.putReg r x).haltBug = s.haltBug := by cases r <;> rfl
@[simp] theorem State.putReg_eiPending (r : Reg8) (x : Alu8) : (s.putReg r x).eiPending = s.eiPending := by cases r <;> rfl
@[simp] theorem State.putReg_divCounter (r : Reg8) (x : Alu8) : (s.putReg r x).divCounter = s.divCounter := by cases r <;> rfl
@[simp] theorem State.putReg_timaCounter (r : Reg8) (x : Alu8) : (s.putReg r x).timaCounter = s.timaCounter := by cases r <;> rfl
@[simp] theorem State.putReg_cycleCounter (r : Reg8) (x : Alu8) : (s.putReg r x).cycleCounter = s.cycleCounter := by cases r <;> rfl
@[simp] theorem State.putReg_fault (r : Reg8) (x : Alu8) : (s.putReg r x).fault = s.fault := by cases r <;> rfl
@[simp] theorem State.putReg_mem (r : Reg8) (x : Alu8) : (s.putReg r x).mem = s.mem := by cases r <;> rfl
@[simp] theorem State.putReg_cfg (r : Reg8) (x : Alu8) : (s.putReg r x).cfg = s.cfg := by cases r <;> rfl
@[simp] theorem State.putReg_read8 (r : Reg8) (x : Alu8) (j : Word) : (s.putReg r x).read8 j = s.read8 j := by cases r <;> rfl

/-! ## putAtHL -/

@[simp] theorem State.putAtHL_a (x : Alu8) : (s.putAtHL x).a = s.a := rfl
@[simp] theorem State.putAtHL_b (x : Alu8) : (s.putAtHL x).b = s.b := rfl
@[simp] theorem State.putAtHL_c (x : Alu8) : (s.putAtHL x).c = s.c := rfl
@[simp] theorem State.putAtHL_d (x : Alu8) : (s.putAtHL x).d = s.d := rfl
@[simp] theorem State.putAtHL_e (x : Alu8) : (s.putAtHL x).e = s.e := rfl
@[simp] theorem State.putAtHL_h (x : Alu8) : (s.putAtHL x).h = s.h := rfl
@[simp] theorem State.putAtHL_l (x : Alu8) : (s.putAtHL x).l = s.l := rfl
@[simp] theorem State.putAtHL_sp (x : Alu8) : (s.putAtHL x).sp = s.sp := rfl
@[simp] theorem State.putAtHL_pc (x : Alu8) : (s.putAtHL x).pc = s.pc := rfl
@[simp] theorem State.putAtHL_ime (x : Alu8) : (s.putAtHL x).ime = s.ime := rfl
@[simp] theorem State.putAtHL_halted (x : Alu8) : (s.putAtHL x).halted = s.halted := rfl
@[simp] theorem State.putAtHL_haltBug (x : Alu8) : (s.putAtHL x).haltBug = s.haltBug := rfl
@[simp] theorem State.putAtHL_eiPending (x : Alu8) : (s.putAtHL x).eiPending = s.eiPending := rfl
@[simp] theorem State.putAtHL_divCounter (x : Alu8) : (s.putAtHL x).divCounter = s.divCounter := rfl
@[simp] theorem State.putAtHL_timaCounter (x : Alu8) : (s.putAtHL x).timaCounter = s.timaCounter := rfl
@[simp] theorem State.putAtHL_cycleCounter (x : Alu8) : (s.putAtHL x).cycleCounter = s.cycleCounter := rfl
@[simp] theorem State.putAtHL_fault (x : Alu8) : (s.putAtHL x).fault = s.fault := rfl
@[simp] theorem State.putAtHL_cfg (x : Alu8) : (s.putAtHL x).cfg = s.cfg := rfl
@[simp] theorem State.putAtHL_reg8 (x : Alu8) (q : Reg8) : (s.putAtHL x).reg8 q = s.reg8 q := by cases q <;> rfl
@[simp] theorem State.putAtHL_hl (x : Alu8) : (s.putAtHL x).hl = s.hl := rfl

/-! ## call -/

@[simp] theorem State.call_a (k : Word) : (s.call k).a = s.a := rfl
@[simp] theorem State.call_flags (k : Word) : (s.call k).flags = s.flags := rfl
@[simp] theorem State.call_b (k : Word) : (s.call k).b = s.b := rfl
@[simp] theorem State.call_c (k : Word) : (s.call k).c = s.c := rfl
@[simp] theorem State.call_d (k : Word) : (s.call k).d = s.d := rfl
@[simp] theorem State.call_e (k : Word) : (s.call k).e = s.e := rfl
@[simp] theorem State.call_h (k : Word) : (s.call k).h = s.h := rfl
@[simp] theorem State.call_l (k : Word) : (s.call k).l = s.l := rfl
@[simp] theorem State.call_ime (k : Word) : (s.call k).ime = s.ime := rfl
@[simp] theorem State.call_halted (k : Word) : (s.call k).halted = s.halted := rfl
@[simp] theorem State.call_haltBug (k : Word) : (s.call k).haltBug = s.haltBug := rfl
@[simp] theorem State.call_eiPending (k : Word) : (s.call k).eiPending = s.eiPending := rfl
@[simp] theorem State.call_divCounter (k : Word) : (s.call k).divCounter = s.divCounter := rfl
@[simp] theorem State.call_timaCounter (k : Word) : (s.call k).timaCounter = s.timaCounter := rfl
@[simp] theorem State.call_cycleCounter (k : Word) : (s.call k).cycleCounter = s.cycleCounter := rfl
@[simp] theorem State.call_fault (k : Word) : (s.call k).fault = s.fault := rfl
@[simp] theorem State.call_cfg (k : Word) : (s.call k).cfg = s.cfg := rfl
@[simp] theorem State.call_reg8 (k : Word) (q : Reg8) : (s.call k).reg8 q = s.reg8 q := by cases q <;> rfl
@[simp] theorem State.call_hl (k : Word) : (s.call k).hl = s.hl := rfl

/-! ## takeInterrupt -/

@[simp] theorem State.takeInterrupt_a (i : Fin 5) : (s.takeInterrupt i).a = s.a := rfl
@[simp] theorem State.takeInterrupt_flags (i : Fin 5) : (s.takeInterrupt i).flags = s.flags := rfl
@[simp] theorem State.takeInterrupt_b (i : Fin 5) : (s.takeInterrupt i).b = s.b := rfl
@[simp] theorem State.takeInterrupt_c (i : Fin 5) : (s.takeInterrupt i).c = s.c := rfl
@[simp] theorem State.takeInterrupt_d (i : Fin 5) : (s.takeInterrupt i).d = s.d := rfl
@[simp] theorem State.takeInterrupt_e (i : Fin 5) : (s.takeInterrupt i).e = s.e := rfl
@[simp] theorem State.takeInterrupt_h (i : Fin 5) : (s.takeInterrupt i).h = s.h := rfl
@[simp] theorem State.takeInterrupt_l (i : Fin 5) : (s.takeInterrupt i).l = s.l := rfl
@[simp] theorem State.takeInterrupt_haltBug (i : Fin 5) : (s.takeInterrupt i).haltBug = s.haltBug := rfl
@[simp] theorem State.takeInterrupt_divCounter (i : Fin 5) : (s.takeInterrupt i).divCounter = s.divCounter := rfl
@[simp] theorem State.takeInterrupt_timaCounter (i : Fin 5) : (s.takeInterrupt i).timaCounter = s.timaCounter := rfl
@[simp] theorem State.takeInterrupt_cycleCounter (i : Fin 5) : (s.takeInterrupt i).cycleCounter = s.cycleCounter := rfl
@[simp] theorem State.takeInterrupt_fault (i : Fin 5) : (s.takeInterrupt i).fault = s.fault := rfl
@[simp] theorem State.takeInterrupt_cfg (i : Fin 5) : (s.takeInterrupt i).cfg = s.cfg := rfl
@[simp] theorem State.takeInterrupt_reg8 (i : Fin 5) (q : Reg8) : (s.takeInterrupt i).reg8 q = s.reg8 q := by cases q <;> rfl
@[simp] theorem State.takeInterrupt_hl (i : Fin 5) : (s.takeInterrupt i).hl = s.hl := rfl

/-! ## returnFromInterrupt -/

@[simp] theorem State.returnFromInterrupt_a : (s.returnFromInterrupt).a = s.a := rfl
@[simp] theorem State.returnFromInterrupt_flags : (s.returnFromInterrupt).flags = s.flags := rfl
@[simp] theorem State.returnFromInterrupt_b : (s.returnFromInterrupt).b = s.b := rfl
@[simp] theorem State.returnFromInterrupt_c : (s.returnFromInterrupt).c = s.c := rfl
@[simp] theorem State.returnFromInterrupt_d : (s.returnFromInterrupt).d = s.d := rfl
@[simp] theorem State.returnFromInterrupt_e : (s.returnFromInterrupt).e = s.e := rfl
@[simp] theorem State.returnFromInterrupt_h : (s.returnFromInterrupt).h = s.h := rfl
@[simp] theorem State.returnFromInterrupt_l : (s.returnFromInterrupt).l = s.l := rfl
@[simp] theorem State.returnFromInterrupt_halted : (s.returnFromInterrupt).halted = s.halted := rfl
@[simp] theorem State.returnFromInterrupt_haltBug : (s.returnFromInterrupt).haltBug = s.haltBug := rfl
@[simp] theorem State.returnFromInterrupt_divCounter : (s.returnFromInterrupt).divCounter = s.divCounter := rfl
@[simp] theorem State.returnFromInterrupt_timaCounter : (s.returnFromInterrupt).timaCounter = s.timaCounter := rfl
@[simp] theorem State.returnFromInterrupt_cycleCounter : (s.returnFromInterrupt).cycleCounter = s.cycleCounter := rfl
@[simp] theorem State.returnFromInterrupt_fault : (s.returnFromInterrupt).fault = s.fault := rfl
@[simp] theorem State.returnFromInterrupt_mem : (s.returnFromInterrupt).mem = s.mem := rfl
@[simp] theorem State.returnFromInterrupt_cfg : (s.returnFromInterrupt).cfg = s.cfg := rfl
@[simp] theorem State.returnFromInterrupt_read8 (j : Word) : (s.returnFromInterrupt).read8 j = s.read8 j := rfl
@[simp] theorem State.returnFromInterrupt_reg8 (q : Reg8) : (s.returnFromInterrupt).reg8 q = s.reg8 q := by cases q <;> rfl
@[simp] theorem State.returnFromInterrupt_hl : (s.returnFromInterrupt).hl = s.hl := rfl

/-! ## recordFault -/

@[simp] theorem State.recordFault_a (f : Fault) : (s.recordFault f).a = s.a := rfl
@[simp] theorem State.recordFault_flags (f : Fault) : (s.recordFault f).flags = s.flags := rfl
@[simp] theorem State.recordFault_b (f : Fault) : (s.recordFault f).b = s.b := rfl
@[simp] theorem State.recordFault_c (f : Fault) : (s.recordFault f).c = s.c := rfl
@[simp] theorem State.recordFault_d (f : Fault) : (s.recordFault f).d = s.d := rfl
@[simp] theorem State.recordFault_e (f : Fault) : (s.recordFault f).e = s.e := rfl
@[simp] theorem State.recordFault_h (f : Fault) : (s.recordFault f).h = s.h := rfl
@[simp] theorem State.recordFault_l (f : Fault) : (s.recordFault f).l = s.l := rfl
@[simp] theorem State.recordFault_sp (f : Fault) : (s.recordFault f).sp = s.sp := rfl
@[simp] theorem State.recordFault_pc (f : Fault) : (s.recordFault f).pc = s.pc := rfl
@[simp] theorem State.recordFault_ime (f : Fault) : (s.recordFault f).ime = s.ime := rfl
@[simp] theorem State.recordFault_halted (f : Fault) : (s.recordFault f).halted = s.halted := rfl
@[simp] theorem State.recordFault_haltBug (f : Fault) : (s.recordFault f).haltBug = s.haltBug := rfl
@[simp] theorem State.recordFault_eiPending (f : Fault) : (s.recordFault f).eiPending = s.eiPending := rfl
@[simp] theorem State.recordFault_divCounter (f : Fault) : (s.recordFault f).divCounter = s.divCounter := rfl
@[simp] theorem State.recordFault_timaCounter (f : Fault) : (s.recordFault f).timaCounter = s.timaCounter := rfl
@[simp] theorem State.recordFault_cycleCounter (f : Fault) : (s.recordFault f).cycleCounter = s.cycleCounter := rfl
@[simp] theorem State.recordFault_mem (f : Fault) : (s.recordFault f).mem = s.mem := rfl
@[simp] theorem State.recordFault_cfg (f : Fault) : (s.recordFault f).cfg = s.cfg := rfl
@[simp] theorem State.recordFault_read8 (f : Fault) (j : Word) : (s.recordFault f).read8 j = s.read8 j := rfl
@[simp] theorem State.recordFault_reg8 (f : Fault) (q : Reg8) : (s.recordFault f).reg8 q = s.reg8 q := by cases q <;> rfl
@[simp] theorem State.recordFault_hl (f : Fault) : (s.recordFault f).hl = s.hl := rfl

/-! ## The fields the operations set -/

@[simp] theorem State.past_pc (n : Nat) : (s.past n).pc = s.pcAfter n := rfl
@[simp] theorem State.past_haltBug (n : Nat) : (s.past n).haltBug = false := rfl
@[simp] theorem State.charge_cycleCounter (n : Nat) : (s.charge n).cycleCounter = s.cycleCounter + n := rfl
@[simp] theorem State.write8_mem (k : Word) (v : Byte) : (s.write8 k v).mem = s.mem.write s.cfg.memoryBus k v := rfl
@[simp] theorem State.popped_sp : s.popped.sp = s.sp + 2 := rfl
@[simp] theorem State.setHL_hl (v : Word) : (s.setHL v).hl = v := by
  exact join_hi_lo v
@[simp] theorem State.call_pc (k : Word) : (s.call k).pc = k := rfl
@[simp] theorem State.takeInterrupt_ime (i : Fin 5) : (s.takeInterrupt i).ime = false := rfl
@[simp] theorem State.takeInterrupt_eiPending (i : Fin 5) : (s.takeInterrupt i).eiPending = false := rfl
@[simp] theorem State.takeInterrupt_halted (i : Fin 5) : (s.takeInterrupt i).halted = false := rfl
@[simp] theorem State.takeInterrupt_pc (i : Fin 5) : (s.takeInterrupt i).pc = vectorOf i := rfl
@[simp] theorem State.returnFromInterrupt_ime : s.returnFromInterrupt.ime = true := rfl
@[simp] theorem State.returnFromInterrupt_pc : s.returnFromInterrupt.pc = s.popValue := rfl
@[simp] theorem State.recordFault_fault (f : Fault) : (s.recordFault f).fault = some f := rfl

/-- A register reads back what was written to it. -/
@[simp] theorem State.setReg8_reg8_same (r : Reg8) (v : Byte) : (s.setReg8 r v).reg8 r = v := by cases r <;> rfl

/-- Writing a register leaves the others alone. -/
theorem State.setReg8_reg8_other {q r : Reg8} (v : Byte) (h : q ≠ r) : (s.setReg8 r v).reg8 q = s.reg8 q := by
  cases q <;> cases r <;> first | rfl | exact absurd rfl h

@[simp] theorem State.setReg8_flags_putReg (r : Reg8) (x : Alu8) : (s.putReg r x).flags = x.flags := by cases r <;> rfl

@[simp] theorem State.putReg_reg8_same (r : Reg8) (x : Alu8) : (s.putReg r x).reg8 r = x.res := by cases r <;> rfl

theorem State.putReg_reg8_other {q r : Reg8} (x : Alu8) (h : q ≠ r) : (s.putReg r x).reg8 q = s.reg8 q := by
  cases q <;> cases r <;> first | rfl | exact absurd rfl h

/-! ## Reads after writes: each says which bus it is about (R110) -/

/-- FlatRAM meets the contract of R101. -/
theorem flatRAM_meetsContract : MeetsContract .flatRAM := fun m a b v h => by
  rw [Store.read_write rfl, if_neg h]

/-- On FlatRAM, what a read of a byte answers after a byte store. -/
theorem State.write8_read8 {s : State} (hb : s.cfg.memoryBus = .flatRAM) (a k : Word) (v : Byte) :
    (s.write8 a v).read8 k = if k = a then v else s.read8 k :=
  Store.read_write hb s.mem a k v

@[simp] theorem State.write8_read8_same {s : State} (hb : s.cfg.memoryBus = .flatRAM) (a : Word) (v : Byte) :
    (s.write8 a v).read8 a = v := by
  rw [State.write8_read8 hb, if_pos rfl]

/-- On a bus that meets the contract, a byte store leaves every other byte alone. -/
theorem State.write8_read8_other {s : State} (hb : MeetsContract s.cfg.memoryBus) {a k : Word} (v : Byte) (h : k ≠ a) :
    (s.write8 a v).read8 k = s.read8 k :=
  hb s.mem a k v h

end Sys2Proof.Machine
end

