-- ==== Sys2Proof/Laws/Ops.lean ====
section
/-! SUPPORT. One lemma per shared operation that says what it does, for proofs to cite: what an instruction that runs leaves,
what a push, a word store and an interrupt entry leave in memory, what the timers and the end of a step leave alone, and that
all of them keep memory in canonical form. -/

namespace Sys2Proof.Machine

/-! ## Retiring and faulting -/

/-- An instruction that runs answers exactly one next state. -/
theorem State.run_next_iff (s t : State) (len opcode cycles : Nat) (effect : State → State) :
    s.run len opcode cycles effect = .next t ↔ t = (effect (s.past len)).charge (costOf s.cfg opcode cycles) := by
  rw [State.run, Host.Outcome.next.injEq, eq_comm]

/-- A transfer that is not taken answers exactly one next state. -/
theorem State.runNotTaken_next_iff (s t : State) (len opcode cycles : Nat) :
    s.runNotTaken len opcode cycles = .next t ↔ t = (s.past len).charge (costNotTaken s.cfg opcode cycles) := by
  rw [State.runNotTaken, Host.Outcome.next.injEq, eq_comm]

@[simp] theorem State.raise_eq (s : State) (f : Fault) : s.raise f = .fault f := rfl

/-- A table without rows replaces no cost. -/
theorem costOf_of_no_rows {cfg : Config} (h : cfg.cycleCost = []) (opcode cycles : Nat) :
    costOf cfg opcode cycles = cycles := by
  simp [costOf, costRow, h]

theorem costNotTaken_of_no_rows {cfg : Config} (h : cfg.cycleCost = []) (opcode cycles : Nat) :
    costNotTaken cfg opcode cycles = cycles := by
  simp [costNotTaken, costRow, h]

theorem State.pcAfter_of_no_bug {s : State} (h : s.haltBug = false) (len : Nat) :
    s.pcAfter len = s.pc + BitVec.ofNat 16 len := by
  simp [State.pcAfter, h]

/-! ## Word stores, the stack and interrupt entry, byte by byte -/

/-- Two states with the same memory and bus read alike. -/
theorem State.read8_congr {s t : State} (hm : t.mem = s.mem) (hc : t.cfg = s.cfg) (a : Word) : t.read8 a = s.read8 a := by
  rw [State.read8, State.read8, hm, hc]

@[simp] theorem State.writes_nil (s : State) : s.writes [] = s := rfl
@[simp] theorem State.writes_cons (s : State) (w : Word × Byte) (ws : List (Word × Byte)) :
    s.writes (w :: ws) = (s.write8 w.1 w.2).writes ws := rfl

/-- A list of byte writes changes nothing but memory. -/
theorem State.writes_only (ws : List (Word × Byte)) : ∀ s : State, { s.writes ws with mem := s.mem } = s := by
  induction ws with
  | nil => intro s; rfl
  | cons w ws ih => intro s; exact congrArg (fun t => { t with mem := s.mem }) (ih (s.write8 w.1 w.2))

@[simp] theorem State.writes_cfg (s : State) (ws : List (Word × Byte)) : (s.writes ws).cfg = s.cfg :=
  (congrArg State.cfg (State.writes_only ws s) :)

/-- What a list of byte writes makes of memory depends on memory and the bus alone. -/
theorem State.writes_mem_congr (ws : List (Word × Byte)) : ∀ {s t : State}, t.mem = s.mem → t.cfg = s.cfg →
    (t.writes ws).mem = (s.writes ws).mem := by
  induction ws with
  | nil => intro s t hm _; exact hm
  | cons w ws ih =>
    intro s t hm hc
    refine ih (s := s.write8 w.1 w.2) (t := t.write8 w.1 w.2) ?_ hc
    rw [State.write8_mem, State.write8_mem, hm, hc]

/-- On a bus that meets the contract, a list of byte writes leaves every byte it does not address alone. -/
theorem State.writes_read8_other (ws : List (Word × Byte)) : ∀ {s : State}, MeetsContract s.cfg.memoryBus →
    ∀ {k : Word}, k ∉ ws.map Prod.fst → (s.writes ws).read8 k = s.read8 k := by
  induction ws with
  | nil => intro s _ k _; rfl
  | cons w ws ih =>
    intro s hb k hk
    simp only [List.map_cons, List.mem_cons, not_or] at hk
    exact (ih (s := s.write8 w.1 w.2) hb hk.2).trans (State.write8_read8_other hb w.2 hk.1)

/-- A state whose memory and bus are those after a list of byte writes meets `Stores` for that list. -/
theorem Stores.of_mem {s t : State} {ws : List (Word × Byte)} (hm : t.mem = (s.writes ws).mem) (hc : t.cfg = s.cfg) :
    Stores s t ws := by
  refine ⟨hm, fun hb a ha => ?_⟩
  exact (State.read8_congr hm (hc.trans (s.writes_cfg ws).symm) a).trans (State.writes_read8_other ws hb ha)

/-- A state whose memory and bus are as before reads as before. -/
theorem SameMem.of_mem {s t : State} (hm : t.mem = s.mem) (hc : t.cfg = s.cfg) : SameMem s t :=
  ⟨hm, State.read8_congr hm hc⟩

/-- On FlatRAM, what a byte reads as after a word store: its two bytes are the word's, low byte first. -/
theorem State.writeWord_read8 {s : State} (hb : s.cfg.memoryBus = .flatRAM) (a v k : Word) :
    (s.writeWord a v).read8 k = if k = a + 1 then hi v else if k = a then lo v else s.read8 k := by
  rw [State.writeWord, State.write8_read8 (s := s.write8 a (lo v)) hb, State.write8_read8 hb]

/-- The two writes of a word store, in order. -/
theorem State.writeWord_writes (s : State) (a v : Word) : s.writeWord a v = s.writes [(a, lo v), (a + 1, hi v)] := rfl

/-- The two writes of a push, in order. -/
theorem State.push16_mem (s : State) (v : Word) :
    (s.push16 v).mem = (s.writes [(s.sp - 1, hi v), (s.sp - 2, lo v)]).mem := by
  have h : s.sp - 1 - 1 = s.sp - 2 := by bv_omega
  show ((s.mem.write s.cfg.memoryBus (s.sp - 1) (hi v)).write s.cfg.memoryBus (s.sp - 1 - 1) (lo v)) = _
  rw [h]
  rfl

theorem State.push16_sp (s : State) (v : Word) : (s.push16 v).sp = s.sp - 2 := by
  show s.sp - 1 - 1 = s.sp - 2
  bv_omega

/-- On FlatRAM, what a byte reads as after a push. -/
theorem State.push16_read8 {s : State} (hb : s.cfg.memoryBus = .flatRAM) (v k : Word) :
    (s.push16 v).read8 k = if k = s.sp - 2 then lo v else if k = s.sp - 1 then hi v else s.read8 k := by
  rw [State.read8_congr (s.push16_mem v) rfl, State.writes_cons, State.writes_cons, State.writes_nil,
    State.write8_read8 (s := s.write8 (s.sp - 1) (hi v)) hb, State.write8_read8 hb]

theorem State.takeInterrupt_sp (s : State) (i : Fin 5) : (s.takeInterrupt i).sp = s.sp - 2 :=
  State.push16_sp _ s.pc

/-- The three writes of an interrupt entry, in order. -/
theorem State.takeInterrupt_mem (s : State) (i : Fin 5) :
    (s.takeInterrupt i).mem = (s.writes [(addrIF, s.regIF &&& ~~~((1 : Byte) <<< i.val)), (s.sp - 1, hi s.pc),
      (s.sp - 2, lo s.pc)]).mem :=
  State.push16_mem { s.write8 addrIF (s.regIF &&& ~~~((1 : Byte) <<< i.val)) with ime := false, eiPending := false } s.pc

/-- On FlatRAM, what a byte reads as after an interrupt is taken. -/
theorem State.takeInterrupt_read8 {s : State} (hb : s.cfg.memoryBus = .flatRAM) (i : Fin 5) (k : Word) :
    (s.takeInterrupt i).read8 k =
      if k = s.sp - 2 then lo s.pc else if k = s.sp - 1 then hi s.pc
      else if k = addrIF then s.regIF &&& ~~~((1 : Byte) <<< i.val) else s.read8 k := by
  have h := State.push16_read8 (s := { s.write8 addrIF (s.regIF &&& ~~~((1 : Byte) <<< i.val)) with
    ime := false, eiPending := false }) hb s.pc k
  have h' := State.write8_read8 hb addrIF k (s.regIF &&& ~~~((1 : Byte) <<< i.val))
  refine h.trans ?_
  rw [← h']
  rfl

/-! ## The canonical form -/

theorem State.write8_wf (s : State) (a : Word) (v : Byte) (h : s.mem.wf = true) : (s.write8 a v).mem.wf = true :=
  Store.wf_write _ a v h

theorem State.writeWord_wf (s : State) (a v : Word) (h : s.mem.wf = true) : (s.writeWord a v).mem.wf = true :=
  State.write8_wf _ _ _ (State.write8_wf _ _ _ h)

theorem State.push16_wf (s : State) (v : Word) (h : s.mem.wf = true) : (s.push16 v).mem.wf = true :=
  Store.wf_write _ _ _ (Store.wf_write _ _ _ h)

theorem State.takeInterrupt_wf (s : State) (i : Fin 5) (h : s.mem.wf = true) : (s.takeInterrupt i).mem.wf = true :=
  Store.wf_write _ _ _ (Store.wf_write _ _ _ (Store.wf_write _ _ _ h))

/-- Copying a list of bytes through the contract keeps the canonical form. -/
theorem State.writeList_wf (bytes : List Byte) : ∀ {s : State} (a : Word), s.mem.wf = true →
    (s.writeList a bytes).mem.wf = true := by
  induction bytes with
  | nil => intro s a h; exact h
  | cons v vs ih => intro s a h; exact ih _ (State.write8_wf s a v h)

/-- Copying a list of bytes changes nothing but memory. -/
theorem State.writeList_only (bytes : List Byte) : ∀ (s : State) (a : Word), { s.writeList a bytes with mem := s.mem } = s := by
  induction bytes with
  | nil => intro s a; rfl
  | cons v vs ih => intro s a; exact congrArg (fun t => { t with mem := s.mem }) (ih (s.write8 a v) (a + 1))

@[simp] theorem State.writeList_cfg (s : State) (a : Word) (bytes : List Byte) : (s.writeList a bytes).cfg = s.cfg :=
  (congrArg State.cfg (State.writeList_only bytes s a) :)

@[simp] theorem State.writeList_fault (s : State) (a : Word) (bytes : List Byte) : (s.writeList a bytes).fault = s.fault :=
  (congrArg State.fault (State.writeList_only bytes s a) :)

theorem State.tickTIMA_wf (s : State) (h : s.mem.wf = true) : s.tickTIMA.mem.wf = true := by
  unfold State.tickTIMA
  split
  · exact State.write8_wf _ _ _ (State.write8_wf _ _ _ h)
  · exact State.write8_wf _ _ _ h

theorem State.dividerUpdate_wf (s : State) (c : Nat) (h : s.mem.wf = true) : (s.dividerUpdate c).mem.wf = true := by
  unfold State.dividerUpdate
  dsimp only
  split
  · exact Store.wf_write _ _ _ h
  · exact h

theorem State.counterUpdate_wf (s : State) (c : Nat) (h : s.mem.wf = true) : (s.counterUpdate c).mem.wf = true := by
  unfold State.counterUpdate
  dsimp only
  split
  · split
    · exact State.tickTIMA_wf { s with timaCounter := (timaPeriod s.cfg (tacSel s.regTAC) : Int) } h
    · exact h
  · exact h

theorem State.timerUpdate_wf (s : State) (c : Nat) (h : s.mem.wf = true) : (s.timerUpdate c).mem.wf = true :=
  State.counterUpdate_wf _ c (State.dividerUpdate_wf s c h)

/-! ## What the timers leave alone -/

/-- Two states differ at most in memory and the two countdowns. -/
def TimersOnly (s t : State) : Prop :=
  { t with divCounter := s.divCounter, timaCounter := s.timaCounter, mem := s.mem } = s

theorem TimersOnly.eq {s t : State} (h : TimersOnly s t) :
    { t with divCounter := s.divCounter, timaCounter := s.timaCounter, mem := s.mem } = s := h

theorem TimersOnly.trans {s t u : State} (h : TimersOnly s t) (h' : TimersOnly t u) : TimersOnly s u := by
  unfold TimersOnly at *
  rw [← h'] at h
  exact h

theorem State.tickTIMA_only (s : State) : TimersOnly s s.tickTIMA := by
  unfold State.tickTIMA
  split <;> rfl

theorem State.dividerUpdate_only (s : State) (c : Nat) : TimersOnly s (s.dividerUpdate c) := by
  unfold State.dividerUpdate
  dsimp only
  split <;> rfl

theorem State.counterUpdate_only (s : State) (c : Nat) : TimersOnly s (s.counterUpdate c) := by
  unfold State.counterUpdate
  dsimp only
  split
  · split
    · have h := (State.tickTIMA_only { s with timaCounter := (timaPeriod s.cfg (tacSel s.regTAC) : Int) }).eq
      exact congrArg (fun t => { t with timaCounter := s.timaCounter }) h
    · rfl
  · rfl

/-- A timer update changes nothing but memory and the countdowns. -/
theorem State.timerUpdate_only (s : State) (c : Nat) : TimersOnly s (s.timerUpdate c) :=
  (s.dividerUpdate_only c).trans ((s.dividerUpdate c).counterUpdate_only c)

section
variable (s : State) (c : Nat)

@[simp] theorem State.timerUpdate_pc : (s.timerUpdate c).pc = s.pc := (congrArg State.pc (s.timerUpdate_only c).eq :)
@[simp] theorem State.timerUpdate_sp : (s.timerUpdate c).sp = s.sp := (congrArg State.sp (s.timerUpdate_only c).eq :)
@[simp] theorem State.timerUpdate_flags : (s.timerUpdate c).flags = s.flags := (congrArg State.flags (s.timerUpdate_only c).eq :)
@[simp] theorem State.timerUpdate_ime : (s.timerUpdate c).ime = s.ime := (congrArg State.ime (s.timerUpdate_only c).eq :)
@[simp] theorem State.timerUpdate_halted : (s.timerUpdate c).halted = s.halted :=
  (congrArg State.halted (s.timerUpdate_only c).eq :)
@[simp] theorem State.timerUpdate_haltBug : (s.timerUpdate c).haltBug = s.haltBug :=
  (congrArg State.haltBug (s.timerUpdate_only c).eq :)
@[simp] theorem State.timerUpdate_eiPending : (s.timerUpdate c).eiPending = s.eiPending :=
  (congrArg State.eiPending (s.timerUpdate_only c).eq :)
@[simp] theorem State.timerUpdate_cycleCounter : (s.timerUpdate c).cycleCounter = s.cycleCounter :=
  (congrArg State.cycleCounter (s.timerUpdate_only c).eq :)
@[simp] theorem State.timerUpdate_fault : (s.timerUpdate c).fault = s.fault := (congrArg State.fault (s.timerUpdate_only c).eq :)
@[simp] theorem State.timerUpdate_cfg : (s.timerUpdate c).cfg = s.cfg := (congrArg State.cfg (s.timerUpdate_only c).eq :)
@[simp] theorem State.timerUpdate_reg8 (r : Reg8) : (s.timerUpdate c).reg8 r = s.reg8 r := by
  have h := congrArg (fun t => State.reg8 t r) (s.timerUpdate_only c).eq
  cases r <;> exact h

end

/-! ## The end of a step -/

/-- Interrupt service either finds nothing to take, or takes the ready source and accounts its cost. -/
theorem State.serviceInterrupts_cases (s : State) :
    (s.readySource = none ∧ s.serviceInterrupts = s) ∨
    ∃ i, s.readySource = some i ∧
      ((s.cfg.intDispatchCycles = 0 ∧ s.serviceInterrupts = s.takeInterrupt i) ∨
        (0 < s.cfg.intDispatchCycles ∧ s.serviceInterrupts =
          ((s.takeInterrupt i).charge s.cfg.intDispatchCycles).timerUpdate s.cfg.intDispatchCycles)) := by
  cases h : s.readySource with
  | none => exact .inl ⟨rfl, by simp [State.serviceInterrupts, h]⟩
  | some i =>
    refine .inr ⟨i, rfl, ?_⟩
    rcases Nat.eq_zero_or_pos s.cfg.intDispatchCycles with h0 | h0
    · exact .inl ⟨h0, by simp [State.serviceInterrupts, h, h0]⟩
    · exact .inr ⟨h0, by simp [State.serviceInterrupts, h, h0]⟩

theorem State.serviceInterrupts_wf (s : State) (h : s.mem.wf = true) : s.serviceInterrupts.mem.wf = true := by
  rcases s.serviceInterrupts_cases with ⟨-, e⟩ | ⟨i, -, ⟨-, e⟩ | ⟨-, e⟩⟩ <;> rw [e]
  · exact h
  · exact State.takeInterrupt_wf s i h
  · exact State.timerUpdate_wf ((s.takeInterrupt i).charge _) _ (State.takeInterrupt_wf s i h)

/-- The wake test changes `halted` at most. -/
theorem State.wake_cases (s : State) :
    s.wake = s ∨ (s.halted = true ∧ s.pending = true ∧ s.wake = { s with halted := false }) := by
  unfold State.wake
  cases hh : s.halted <;> cases hp : s.pending <;> simp

theorem State.wake_wf (s : State) (h : s.mem.wf = true) : s.wake.mem.wf = true := by
  rcases s.wake_cases with e | ⟨-, -, e⟩ <;> rw [e] <;> exact h

/-- The end of a step keeps memory in canonical form. -/
theorem State.endStep_wf (s : State) (c : Nat) (h : s.mem.wf = true) : (s.endStep c).mem.wf = true :=
  State.serviceInterrupts_wf _ (State.wake_wf _ (State.timerUpdate_wf s c h))

/-- Interrupt service writes neither the fault nor the parameters. -/
theorem State.serviceInterrupts_fault_cfg (s : State) :
    s.serviceInterrupts.fault = s.fault ∧ s.serviceInterrupts.cfg = s.cfg := by
  rcases s.serviceInterrupts_cases with ⟨-, e⟩ | ⟨i, -, ⟨-, e⟩ | ⟨-, e⟩⟩ <;> rw [e]
  · exact ⟨rfl, rfl⟩
  · exact ⟨s.takeInterrupt_fault i, s.takeInterrupt_cfg i⟩
  · rw [State.timerUpdate_fault, State.timerUpdate_cfg]
    exact ⟨s.takeInterrupt_fault i, s.takeInterrupt_cfg i⟩

theorem State.wake_fault_cfg (s : State) : s.wake.fault = s.fault ∧ s.wake.cfg = s.cfg := by
  rcases s.wake_cases with e | ⟨-, -, e⟩ <;> rw [e] <;> exact ⟨rfl, rfl⟩

/-- The end of a step writes neither the fault nor the parameters. -/
theorem State.endStep_fault_cfg (s : State) (c : Nat) :
    (s.endStep c).fault = s.fault ∧ (s.endStep c).cfg = s.cfg := by
  have h := (s.timerUpdate c).wake.serviceInterrupts_fault_cfg
  have hw := (s.timerUpdate c).wake_fault_cfg
  rw [hw.1, hw.2, State.timerUpdate_fault, State.timerUpdate_cfg] at h
  exact h

/-! ## The step -/

/-- What a step does: it answers the fault that is set, idles while halted, or runs the instruction at the pc. -/
theorem blockStep_cases (s : State) :
    (∃ f, s.fault = some f ∧ blockStep s = .fault f) ∨
    (s.fault = none ∧ s.halted = true ∧ blockStep s = .next (s.idle.endStep s.cfg.haltIdleCycles)) ∨
    (s.fault = none ∧ s.halted = false ∧
      ((∃ t, exec s.applyPendingEI.fetchInstr s.applyPendingEI = .next t ∧
          blockStep s = .next (t.endStep (t.cycleCounter - s.applyPendingEI.cycleCounter))) ∨
        (∃ f, exec s.applyPendingEI.fetchInstr s.applyPendingEI = .fault f ∧ blockStep s = .fault f) ∨
        (∃ r, exec s.applyPendingEI.fetchInstr s.applyPendingEI = .refused r ∧ blockStep s = .refused r))) := by
  cases hf : s.fault with
  | some f => exact .inl ⟨f, rfl, by simp [blockStep, hf]⟩
  | none =>
    cases hh : s.halted with
    | true => exact .inr (.inl ⟨rfl, rfl, by simp [blockStep, hf, hh]⟩)
    | false =>
      refine .inr (.inr ⟨rfl, rfl, ?_⟩)
      cases he : exec s.applyPendingEI.fetchInstr s.applyPendingEI with
      | next t => exact .inl ⟨t, rfl, by simp [blockStep, hf, hh, he]⟩
      | fault f => exact .inr (.inl ⟨f, rfl, by simp [blockStep, hf, hh, he]⟩)
      | refused r => exact .inr (.inr ⟨r, rfl, by simp [blockStep, hf, hh, he]⟩)

/-- Applying a pending EI changes only IME and `eiPending`. -/
theorem State.applyPendingEI_cases (s : State) :
    (s.eiPending = false ∧ s.applyPendingEI = s) ∨
    (s.eiPending = true ∧ s.applyPendingEI = { s with ime := true, eiPending := false }) := by
  cases h : s.eiPending <;> simp [State.applyPendingEI, h]

/-! ## The frame -/

/-- Looking longer does not change what a frame returned. -/
theorem frameLoop_succ : ∀ (k : Nat) (s : State), (frameLoop k s).2 ≠ .running → frameLoop (k + 1) s = frameLoop k s := by
  intro k
  induction k with
  | zero =>
    intro s h
    unfold frameLoop at h ⊢
    split
    · rfl
    · rename_i hb
      simp [hb] at h
  | succ k ih =>
    intro s h
    rw [frameLoop] at h ⊢
    rw [frameLoop.eq_2 (k := k)]
    split
    · rfl
    · rename_i hb
      simp only [hb, if_false] at h
      cases hc : stepCall s with
      | mk t r =>
        cases r with
        | ok n => simp only [hc] at h ⊢; exact ih t h
        | fault f => rfl
        | refused r => rfl

/-- A frame returns one result and leaves one state. -/
theorem frameLoop_add (k d : Nat) (s : State) (h : (frameLoop k s).2 ≠ .running) : frameLoop (k + d) s = frameLoop k s := by
  induction d with
  | zero => rfl
  | succ d ih => rw [← Nat.add_assoc, frameLoop_succ _ _ (by rw [ih]; exact h), ih]

theorem FrameReturns.unique {s t t' : State} {r r' : FrameReturn} (h : FrameReturns s t r) (h' : FrameReturns s t' r') :
    t = t' ∧ r = r' := by
  obtain ⟨hr, k, hk⟩ := h
  obtain ⟨hr', k', hk'⟩ := h'
  have e : runFrame (k + k') s = (t, r) := by
    rw [← hk]; exact frameLoop_add k k' _ (by show (runFrame k s).2 ≠ _; rw [hk]; exact hr)
  have e' : runFrame (k + k') s = (t', r') := by
    rw [← hk', Nat.add_comm]; exact frameLoop_add k' k _ (by show (runFrame k' s).2 ≠ _; rw [hk']; exact hr')
  exact Prod.mk.injEq .. ▸ (e.symm.trans e')

end Sys2Proof.Machine
end

