-- ==== Sys2Proof/Tests/Slice0.lean ====
section
/-! SUPPORT. The model's own tests. Expected values come from the spec: the bits of a word from its encoding in
spec/opcode_table.json and rules R151 to R165, and the effect of a step from the vector of spec/95_test_vectors.md that the
test's name gives (`test_v41` is vector V41). At the end stand the witnesses: for each statement with hypotheses, a state and
operands that meet them. -/

namespace Sys2Proof.Tests

open Sys2Proof Sys2Proof.Machine

/-! ## Well-formedness: an ill-formed term for each check -/

theorem test_wellFormed_refuses_unassigned_rows :
    (illegalRows.map fun x => x.2.wellFormed) = List.replicate 11 false := by decide

theorem test_wellFormed_admits_instructions :
    ([.nop, .halt, .stop, .ld_a_n8 0xFF, .jr_e8 0x80, .set_7_atHL] : List Instr).map Instr.wellFormed =
      List.replicate 6 true := by decide

/-! ## Decoding: every row of the table, from the bits the table gives it -/

theorem test_decode_0x :
    ([0b00000000, 0b00000001, 0b00000010, 0b00000011, 0b00000100, 0b00000101, 0b00000110, 0b00000111, 0b00001000,
      0b00001001, 0b00001010, 0b00001011, 0b00001100, 0b00001101, 0b00001110, 0b00001111]).map (decodeTableWord 8) =
    [some .nop, some (.ld_bc_n16 0), some .ld_atBC_a, some .inc_bc, some .inc_b, some .dec_b, some (.ld_b_n8 0),
     some .rlca, some (.ld_atA16_sp 0), some .add_hl_bc, some .ld_a_atBC, some .dec_bc, some .inc_c, some .dec_c,
     some (.ld_c_n8 0), some .rrca] := by decide

theorem test_decode_1x :
    ([0b00010000, 0b00010001, 0b00010010, 0b00010011, 0b00010100, 0b00010101, 0b00010110, 0b00010111, 0b00011000,
      0b00011001, 0b00011010, 0b00011011, 0b00011100, 0b00011101, 0b00011110, 0b00011111]).map (decodeTableWord 8) =
    [some .stop, some (.ld_de_n16 0), some .ld_atDE_a, some .inc_de, some .inc_d, some .dec_d, some (.ld_d_n8 0),
     some .rla, some (.jr_e8 0), some .add_hl_de, some .ld_a_atDE, some .dec_de, some .inc_e, some .dec_e,
     some (.ld_e_n8 0), some .rra] := by decide

theorem test_decode_2x :
    ([0b00100000, 0b00100001, 0b00100010, 0b00100011, 0b00100100, 0b00100101, 0b00100110, 0b00100111, 0b00101000,
      0b00101001, 0b00101010, 0b00101011, 0b00101100, 0b00101101, 0b00101110, 0b00101111]).map (decodeTableWord 8) =
    [some (.jr_nz_e8 0), some (.ld_hl_n16 0), some .ld_atHLI_a, some .inc_hl, some .inc_h, some .dec_h,
     some (.ld_h_n8 0), some .daa, some (.jr_z_e8 0), some .add_hl_hl, some .ld_a_atHLI, some .dec_hl, some .inc_l,
     some .dec_l, some (.ld_l_n8 0), some .cpl] := by decide

theorem test_decode_3x :
    ([0b00110000, 0b00110001, 0b00110010, 0b00110011, 0b00110100, 0b00110101, 0b00110110, 0b00110111, 0b00111000,
      0b00111001, 0b00111010, 0b00111011, 0b00111100, 0b00111101, 0b00111110, 0b00111111]).map (decodeTableWord 8) =
    [some (.jr_nc_e8 0), some (.ld_sp_n16 0), some .ld_atHLD_a, some .inc_sp, some .inc_atHL, some .dec_atHL,
     some (.ld_atHL_n8 0), some .scf, some (.jr_c_e8 0), some .add_hl_sp, some .ld_a_atHLD, some .dec_sp,
     some .inc_a, some .dec_a, some (.ld_a_n8 0), some .ccf] := by decide

theorem test_decode_4x :
    ([0b01000000, 0b01000001, 0b01000010, 0b01000011, 0b01000100, 0b01000101, 0b01000110, 0b01000111, 0b01001000,
      0b01001001, 0b01001010, 0b01001011, 0b01001100, 0b01001101, 0b01001110, 0b01001111]).map (decodeTableWord 8) =
    [some .ld_b_b, some .ld_b_c, some .ld_b_d, some .ld_b_e, some .ld_b_h, some .ld_b_l, some .ld_b_atHL,
     some .ld_b_a, some .ld_c_b, some .ld_c_c, some .ld_c_d, some .ld_c_e, some .ld_c_h, some .ld_c_l,
     some .ld_c_atHL, some .ld_c_a] := by decide

theorem test_decode_5x :
    ([0b01010000, 0b01010001, 0b01010010, 0b01010011, 0b01010100, 0b01010101, 0b01010110, 0b01010111, 0b01011000,
      0b01011001, 0b01011010, 0b01011011, 0b01011100, 0b01011101, 0b01011110, 0b01011111]).map (decodeTableWord 8) =
    [some .ld_d_b, some .ld_d_c, some .ld_d_d, some .ld_d_e, some .ld_d_h, some .ld_d_l, some .ld_d_atHL,
     some .ld_d_a, some .ld_e_b, some .ld_e_c, some .ld_e_d, some .ld_e_e, some .ld_e_h, some .ld_e_l,
     some .ld_e_atHL, some .ld_e_a] := by decide

theorem test_decode_6x :
    ([0b01100000, 0b01100001, 0b01100010, 0b01100011, 0b01100100, 0b01100101, 0b01100110, 0b01100111, 0b01101000,
      0b01101001, 0b01101010, 0b01101011, 0b01101100, 0b01101101, 0b01101110, 0b01101111]).map (decodeTableWord 8) =
    [some .ld_h_b, some .ld_h_c, some .ld_h_d, some .ld_h_e, some .ld_h_h, some .ld_h_l, some .ld_h_atHL,
     some .ld_h_a, some .ld_l_b, some .ld_l_c, some .ld_l_d, some .ld_l_e, some .ld_l_h, some .ld_l_l,
     some .ld_l_atHL, some .ld_l_a] := by decide

theorem test_decode_7x :
    ([0b01110000, 0b01110001, 0b01110010, 0b01110011, 0b01110100, 0b01110101, 0b01110110, 0b01110111, 0b01111000,
      0b01111001, 0b01111010, 0b01111011, 0b01111100, 0b01111101, 0b01111110, 0b01111111]).map (decodeTableWord 8) =
    [some .ld_atHL_b, some .ld_atHL_c, some .ld_atHL_d, some .ld_atHL_e, some .ld_atHL_h, some .ld_atHL_l,
     some .halt, some .ld_atHL_a, some .ld_a_b, some .ld_a_c, some .ld_a_d, some .ld_a_e, some .ld_a_h, some .ld_a_l,
     some .ld_a_atHL, some .ld_a_a] := by decide

theorem test_decode_8x :
    ([0b10000000, 0b10000001, 0b10000010, 0b10000011, 0b10000100, 0b10000101, 0b10000110, 0b10000111, 0b10001000,
      0b10001001, 0b10001010, 0b10001011, 0b10001100, 0b10001101, 0b10001110, 0b10001111]).map (decodeTableWord 8) =
    [some .add_a_b, some .add_a_c, some .add_a_d, some .add_a_e, some .add_a_h, some .add_a_l, some .add_a_atHL,
     some .add_a_a, some .adc_a_b, some .adc_a_c, some .adc_a_d, some .adc_a_e, some .adc_a_h, some .adc_a_l,
     some .adc_a_atHL, some .adc_a_a] := by decide

theorem test_decode_9x :
    ([0b10010000, 0b10010001, 0b10010010, 0b10010011, 0b10010100, 0b10010101, 0b10010110, 0b10010111, 0b10011000,
      0b10011001, 0b10011010, 0b10011011, 0b10011100, 0b10011101, 0b10011110, 0b10011111]).map (decodeTableWord 8) =
    [some .sub_b, some .sub_c, some .sub_d, some .sub_e, some .sub_h, some .sub_l, some .sub_atHL, some .sub_a,
     some .sbc_a_b, some .sbc_a_c, some .sbc_a_d, some .sbc_a_e, some .sbc_a_h, some .sbc_a_l, some .sbc_a_atHL,
     some .sbc_a_a] := by decide

theorem test_decode_ax :
    ([0b10100000, 0b10100001, 0b10100010, 0b10100011, 0b10100100, 0b10100101, 0b10100110, 0b10100111, 0b10101000,
      0b10101001, 0b10101010, 0b10101011, 0b10101100, 0b10101101, 0b10101110, 0b10101111]).map (decodeTableWord 8) =
    [some .and_b, some .and_c, some .and_d, some .and_e, some .and_h, some .and_l, some .and_atHL, some .and_a,
     some .xor_b, some .xor_c, some .xor_d, some .xor_e, some .xor_h, some .xor_l, some .xor_atHL, some .xor_a] := by decide

theorem test_decode_bx :
    ([0b10110000, 0b10110001, 0b10110010, 0b10110011, 0b10110100, 0b10110101, 0b10110110, 0b10110111, 0b10111000,
      0b10111001, 0b10111010, 0b10111011, 0b10111100, 0b10111101, 0b10111110, 0b10111111]).map (decodeTableWord 8) =
    [some .or_b, some .or_c, some .or_d, some .or_e, some .or_h, some .or_l, some .or_atHL, some .or_a, some .cp_b,
     some .cp_c, some .cp_d, some .cp_e, some .cp_h, some .cp_l, some .cp_atHL, some .cp_a] := by decide

theorem test_decode_cx :
    ([0b11000000, 0b11000001, 0b11000010, 0b11000011, 0b11000100, 0b11000101, 0b11000110, 0b11000111, 0b11001000,
      0b11001001, 0b11001010, 0b11001100, 0b11001101, 0b11001110, 0b11001111]).map (decodeTableWord 8) =
    [some .ret_nz, some .pop_bc, some (.jp_nz_a16 0), some (.jp_a16 0), some (.call_nz_a16 0), some .push_bc,
     some (.add_a_n8 0), some .rst_00, some .ret_z, some .ret, some (.jp_z_a16 0), some (.call_z_a16 0),
     some (.call_a16 0), some (.adc_a_n8 0), some .rst_08] := by decide

theorem test_decode_dx :
    ([0b11010000, 0b11010001, 0b11010010, 0b11010011, 0b11010100, 0b11010101, 0b11010110, 0b11010111, 0b11011000,
      0b11011001, 0b11011010, 0b11011011, 0b11011100, 0b11011101, 0b11011110, 0b11011111]).map (decodeTableWord 8) =
    [some .ret_nc, some .pop_de, some (.jp_nc_a16 0), some .illegal_d3, some (.call_nc_a16 0), some .push_de,
     some (.sub_n8 0), some .rst_10, some .ret_c, some .reti, some (.jp_c_a16 0), some .illegal_db,
     some (.call_c_a16 0), some .illegal_dd, some (.sbc_a_n8 0), some .rst_18] := by decide

theorem test_decode_ex :
    ([0b11100000, 0b11100001, 0b11100010, 0b11100011, 0b11100100, 0b11100101, 0b11100110, 0b11100111, 0b11101000,
      0b11101001, 0b11101010, 0b11101011, 0b11101100, 0b11101101, 0b11101110, 0b11101111]).map (decodeTableWord 8) =
    [some (.ldh_atA8_a 0), some .pop_hl, some .ld_atC_a, some .illegal_e3, some .illegal_e4, some .push_hl,
     some (.and_n8 0), some .rst_20, some (.add_sp_e8 0), some .jp_hl, some (.ld_atA16_a 0), some .illegal_eb,
     some .illegal_ec, some .illegal_ed, some (.xor_n8 0), some .rst_28] := by decide

theorem test_decode_fx :
    ([0b11110000, 0b11110001, 0b11110010, 0b11110011, 0b11110100, 0b11110101, 0b11110110, 0b11110111, 0b11111000,
      0b11111001, 0b11111010, 0b11111011, 0b11111100, 0b11111101, 0b11111110, 0b11111111]).map (decodeTableWord 8) =
    [some (.ldh_a_atA8 0), some .pop_af, some .ld_a_atC, some .di, some .illegal_f4, some .push_af, some (.or_n8 0),
     some .rst_30, some (.ld_hl_spE8 0), some .ld_sp_hl, some (.ld_a_atA16 0), some .ei, some .illegal_fc,
     some .illegal_fd, some (.cp_n8 0), some .rst_38] := by decide

theorem test_decode_cb_0x :
    ([0xCB00, 0xCB01, 0xCB02, 0xCB03, 0xCB04, 0xCB05, 0xCB06, 0xCB07, 0xCB08, 0xCB09, 0xCB0A, 0xCB0B, 0xCB0C, 0xCB0D,
      0xCB0E, 0xCB0F]).map (decodeTableWord 16) =
    [some .rlc_b, some .rlc_c, some .rlc_d, some .rlc_e, some .rlc_h, some .rlc_l, some .rlc_atHL, some .rlc_a,
     some .rrc_b, some .rrc_c, some .rrc_d, some .rrc_e, some .rrc_h, some .rrc_l, some .rrc_atHL, some .rrc_a] := by decide

theorem test_decode_cb_1x :
    ([0xCB10, 0xCB11, 0xCB12, 0xCB13, 0xCB14, 0xCB15, 0xCB16, 0xCB17, 0xCB18, 0xCB19, 0xCB1A, 0xCB1B, 0xCB1C, 0xCB1D,
      0xCB1E, 0xCB1F]).map (decodeTableWord 16) =
    [some .rl_b, some .rl_c, some .rl_d, some .rl_e, some .rl_h, some .rl_l, some .rl_atHL, some .rl_a, some .rr_b,
     some .rr_c, some .rr_d, some .rr_e, some .rr_h, some .rr_l, some .rr_atHL, some .rr_a] := by decide

theorem test_decode_cb_2x :
    ([0xCB20, 0xCB21, 0xCB22, 0xCB23, 0xCB24, 0xCB25, 0xCB26, 0xCB27, 0xCB28, 0xCB29, 0xCB2A, 0xCB2B, 0xCB2C, 0xCB2D,
      0xCB2E, 0xCB2F]).map (decodeTableWord 16) =
    [some .sla_b, some .sla_c, some .sla_d, some .sla_e, some .sla_h, some .sla_l, some .sla_atHL, some .sla_a,
     some .sra_b, some .sra_c, some .sra_d, some .sra_e, some .sra_h, some .sra_l, some .sra_atHL, some .sra_a] := by decide

theorem test_decode_cb_3x :
    ([0xCB30, 0xCB31, 0xCB32, 0xCB33, 0xCB34, 0xCB35, 0xCB36, 0xCB37, 0xCB38, 0xCB39, 0xCB3A, 0xCB3B, 0xCB3C, 0xCB3D,
      0xCB3E, 0xCB3F]).map (decodeTableWord 16) =
    [some .swap_b, some .swap_c, some .swap_d, some .swap_e, some .swap_h, some .swap_l, some .swap_atHL,
     some .swap_a, some .srl_b, some .srl_c, some .srl_d, some .srl_e, some .srl_h, some .srl_l, some .srl_atHL,
     some .srl_a] := by decide

theorem test_decode_cb_4x :
    ([0xCB40, 0xCB41, 0xCB42, 0xCB43, 0xCB44, 0xCB45, 0xCB46, 0xCB47, 0xCB48, 0xCB49, 0xCB4A, 0xCB4B, 0xCB4C, 0xCB4D,
      0xCB4E, 0xCB4F]).map (decodeTableWord 16) =
    [some .bit_0_b, some .bit_0_c, some .bit_0_d, some .bit_0_e, some .bit_0_h, some .bit_0_l, some .bit_0_atHL,
     some .bit_0_a, some .bit_1_b, some .bit_1_c, some .bit_1_d, some .bit_1_e, some .bit_1_h, some .bit_1_l,
     some .bit_1_atHL, some .bit_1_a] := by decide

theorem test_decode_cb_5x :
    ([0xCB50, 0xCB51, 0xCB52, 0xCB53, 0xCB54, 0xCB55, 0xCB56, 0xCB57, 0xCB58, 0xCB59, 0xCB5A, 0xCB5B, 0xCB5C, 0xCB5D,
      0xCB5E, 0xCB5F]).map (decodeTableWord 16) =
    [some .bit_2_b, some .bit_2_c, some .bit_2_d, some .bit_2_e, some .bit_2_h, some .bit_2_l, some .bit_2_atHL,
     some .bit_2_a, some .bit_3_b, some .bit_3_c, some .bit_3_d, some .bit_3_e, some .bit_3_h, some .bit_3_l,
     some .bit_3_atHL, some .bit_3_a] := by decide

theorem test_decode_cb_6x :
    ([0xCB60, 0xCB61, 0xCB62, 0xCB63, 0xCB64, 0xCB65, 0xCB66, 0xCB67, 0xCB68, 0xCB69, 0xCB6A, 0xCB6B, 0xCB6C, 0xCB6D,
      0xCB6E, 0xCB6F]).map (decodeTableWord 16) =
    [some .bit_4_b, some .bit_4_c, some .bit_4_d, some .bit_4_e, some .bit_4_h, some .bit_4_l, some .bit_4_atHL,
     some .bit_4_a, some .bit_5_b, some .bit_5_c, some .bit_5_d, some .bit_5_e, some .bit_5_h, some .bit_5_l,
     some .bit_5_atHL, some .bit_5_a] := by decide

theorem test_decode_cb_7x :
    ([0xCB70, 0xCB71, 0xCB72, 0xCB73, 0xCB74, 0xCB75, 0xCB76, 0xCB77, 0xCB78, 0xCB79, 0xCB7A, 0xCB7B, 0xCB7C, 0xCB7D,
      0xCB7E, 0xCB7F]).map (decodeTableWord 16) =
    [some .bit_6_b, some .bit_6_c, some .bit_6_d, some .bit_6_e, some .bit_6_h, some .bit_6_l, some .bit_6_atHL,
     some .bit_6_a, some .bit_7_b, some .bit_7_c, some .bit_7_d, some .bit_7_e, some .bit_7_h, some .bit_7_l,
     some .bit_7_atHL, some .bit_7_a] := by decide

theorem test_decode_cb_8x :
    ([0xCB80, 0xCB81, 0xCB82, 0xCB83, 0xCB84, 0xCB85, 0xCB86, 0xCB87, 0xCB88, 0xCB89, 0xCB8A, 0xCB8B, 0xCB8C, 0xCB8D,
      0xCB8E, 0xCB8F]).map (decodeTableWord 16) =
    [some .res_0_b, some .res_0_c, some .res_0_d, some .res_0_e, some .res_0_h, some .res_0_l, some .res_0_atHL,
     some .res_0_a, some .res_1_b, some .res_1_c, some .res_1_d, some .res_1_e, some .res_1_h, some .res_1_l,
     some .res_1_atHL, some .res_1_a] := by decide

theorem test_decode_cb_9x :
    ([0xCB90, 0xCB91, 0xCB92, 0xCB93, 0xCB94, 0xCB95, 0xCB96, 0xCB97, 0xCB98, 0xCB99, 0xCB9A, 0xCB9B, 0xCB9C, 0xCB9D,
      0xCB9E, 0xCB9F]).map (decodeTableWord 16) =
    [some .res_2_b, some .res_2_c, some .res_2_d, some .res_2_e, some .res_2_h, some .res_2_l, some .res_2_atHL,
     some .res_2_a, some .res_3_b, some .res_3_c, some .res_3_d, some .res_3_e, some .res_3_h, some .res_3_l,
     some .res_3_atHL, some .res_3_a] := by decide

theorem test_decode_cb_ax :
    ([0xCBA0, 0xCBA1, 0xCBA2, 0xCBA3, 0xCBA4, 0xCBA5, 0xCBA6, 0xCBA7, 0xCBA8, 0xCBA9, 0xCBAA, 0xCBAB, 0xCBAC, 0xCBAD,
      0xCBAE, 0xCBAF]).map (decodeTableWord 16) =
    [some .res_4_b, some .res_4_c, some .res_4_d, some .res_4_e, some .res_4_h, some .res_4_l, some .res_4_atHL,
     some .res_4_a, some .res_5_b, some .res_5_c, some .res_5_d, some .res_5_e, some .res_5_h, some .res_5_l,
     some .res_5_atHL, some .res_5_a] := by decide

theorem test_decode_cb_bx :
    ([0xCBB0, 0xCBB1, 0xCBB2, 0xCBB3, 0xCBB4, 0xCBB5, 0xCBB6, 0xCBB7, 0xCBB8, 0xCBB9, 0xCBBA, 0xCBBB, 0xCBBC, 0xCBBD,
      0xCBBE, 0xCBBF]).map (decodeTableWord 16) =
    [some .res_6_b, some .res_6_c, some .res_6_d, some .res_6_e, some .res_6_h, some .res_6_l, some .res_6_atHL,
     some .res_6_a, some .res_7_b, some .res_7_c, some .res_7_d, some .res_7_e, some .res_7_h, some .res_7_l,
     some .res_7_atHL, some .res_7_a] := by decide

theorem test_decode_cb_cx :
    ([0xCBC0, 0xCBC1, 0xCBC2, 0xCBC3, 0xCBC4, 0xCBC5, 0xCBC6, 0xCBC7, 0xCBC8, 0xCBC9, 0xCBCA, 0xCBCB, 0xCBCC, 0xCBCD,
      0xCBCE, 0xCBCF]).map (decodeTableWord 16) =
    [some .set_0_b, some .set_0_c, some .set_0_d, some .set_0_e, some .set_0_h, some .set_0_l, some .set_0_atHL,
     some .set_0_a, some .set_1_b, some .set_1_c, some .set_1_d, some .set_1_e, some .set_1_h, some .set_1_l,
     some .set_1_atHL, some .set_1_a] := by decide

theorem test_decode_cb_dx :
    ([0xCBD0, 0xCBD1, 0xCBD2, 0xCBD3, 0xCBD4, 0xCBD5, 0xCBD6, 0xCBD7, 0xCBD8, 0xCBD9, 0xCBDA, 0xCBDB, 0xCBDC, 0xCBDD,
      0xCBDE, 0xCBDF]).map (decodeTableWord 16) =
    [some .set_2_b, some .set_2_c, some .set_2_d, some .set_2_e, some .set_2_h, some .set_2_l, some .set_2_atHL,
     some .set_2_a, some .set_3_b, some .set_3_c, some .set_3_d, some .set_3_e, some .set_3_h, some .set_3_l,
     some .set_3_atHL, some .set_3_a] := by decide

theorem test_decode_cb_ex :
    ([0xCBE0, 0xCBE1, 0xCBE2, 0xCBE3, 0xCBE4, 0xCBE5, 0xCBE6, 0xCBE7, 0xCBE8, 0xCBE9, 0xCBEA, 0xCBEB, 0xCBEC, 0xCBED,
      0xCBEE, 0xCBEF]).map (decodeTableWord 16) =
    [some .set_4_b, some .set_4_c, some .set_4_d, some .set_4_e, some .set_4_h, some .set_4_l, some .set_4_atHL,
     some .set_4_a, some .set_5_b, some .set_5_c, some .set_5_d, some .set_5_e, some .set_5_h, some .set_5_l,
     some .set_5_atHL, some .set_5_a] := by decide

theorem test_decode_cb_fx :
    ([0xCBF0, 0xCBF1, 0xCBF2, 0xCBF3, 0xCBF4, 0xCBF5, 0xCBF6, 0xCBF7, 0xCBF8, 0xCBF9, 0xCBFA, 0xCBFB, 0xCBFC, 0xCBFD,
      0xCBFE, 0xCBFF]).map (decodeTableWord 16) =
    [some .set_6_b, some .set_6_c, some .set_6_d, some .set_6_e, some .set_6_h, some .set_6_l, some .set_6_atHL,
     some .set_6_a, some .set_7_b, some .set_7_c, some .set_7_d, some .set_7_e, some .set_7_h, some .set_7_l,
     some .set_7_atHL, some .set_7_a] := by decide

/-! Immediates: the low byte first (R159 to R162), and what follows is left over. -/

theorem test_decode_n16 : decode [0x01, 0x34, 0x12, 0x99] = .ok (.ld_bc_n16 0x1234, [0x99]) := by decide
theorem test_decode_a16 : decode [0xCD, 0x00, 0x20] = .ok (.call_a16 0x2000, []) := by decide
theorem test_decode_n8 : decode [0x36, 0x42] = .ok (.ld_atHL_n8 0x42, []) := by decide
theorem test_decode_e8 : decode [0x20, 0xFB] = .ok (.jr_nz_e8 0xFB, []) := by decide
theorem test_decode_a8 : decode [0xE0, 0x07] = .ok (.ldh_atA8_a 0x07, []) := by decide
theorem test_decode_stop_takes_two_bytes : decode [0x10, 0x77, 0x00] = .ok (.stop, [0x00]) := by decide
theorem test_decode_too_short : decode [0xC3, 0x50] = .error (.missingBytes 0xC3) ∧ decode [] = .error .noBytes := by
  decide
theorem test_encode_order : encode (.ld_atA16_sp 0xC123) = [0x08, 0x23, 0xC1] ∧ encode .bit_7_h = [0xCB, 0x7C] := by
  decide

/-! ## Placing a word and stepping -/

theorem test_withFetchWord_runs_it :
    (match step (State.reset.withFetchWord 8 0x3C) with | .next t => t.a == 0x02 | _ => false) = true := by decide

theorem test_withFetchWord_cb :
    (match step (State.reset.withFetchWord 16 0xCB37) with
      | .next t => t.a == 0x10 && t.pc == 0x0002 | _ => false) = true := by
  decide

/-! ## Steps of the spec's vectors -/

/-- The base state of the vectors (section 2 of 95_test_vectors.md). -/
def base : State :=
  { State.reset with
    a := 0, flags := Flags.ofByte 0, b := 0, c := 0, d := 0, e := 0, h := 0, l := 0, pc := 0xC000 }

/-- FlatRAM holding the listed bytes. -/
def ram (cells : Memory) : Store := { ram := cells, platform := 0 }

/-- The state with bytes placed from the pc on. -/
def code (s : State) (bytes : List Byte) : State := s.writeList s.pc bytes

/-- The step completes in a state that passes the check. -/
def after (s : State) (check : State → Bool) : Bool :=
  match step s with
  | .next t => check t
  | _ => false

/-- LD B,C (R201) -/
theorem test_v1 :
    after (code ({ base with b := 0x12, c := 0x34 }) [0x41])
      (fun t =>
        t.f == 0x00 && t.b == 0x34 && t.pc == 0xC001 && t.cycleCounter == 1) = true := by
  decide

/-- LD L,(HL) overwrites the pointer half (R203) -/
theorem test_v4 :
    after (code ({ base with h := 0xC1, l := 0x23, mem := ram [(0xC123, 0x99)] }) [0x6E])
      (fun t =>
        t.f == 0x00 && t.l == 0x99 && t.pc == 0xC001 && t.cycleCounter == 2) = true := by
  decide

/-- LD (HL),H (R204) -/
theorem test_v5 :
    after (code ({ base with h := 0xC8, l := 0x00 }) [0x74])
      (fun t =>
        t.f == 0x00 && t.pc == 0xC001 && t.read8 0xC800 == 0xC8 && t.cycleCounter == 2) = true := by
  decide

/-- LD (HL),n8 (R205) -/
theorem test_v6 :
    after (code ({ base with h := 0xC0, l := 0x10 }) [0x36, 0x42])
      (fun t =>
        t.f == 0x00 && t.pc == 0xC002 && t.read8 0xC010 == 0x42 && t.cycleCounter == 3) = true := by
  decide

/-- LD A,(DE) (R207) -/
theorem test_v8 :
    after (code ({ base with d := 0xC2, e := 0x00, mem := ram [(0xC200, 0x80)] }) [0x1A])
      (fun t =>
        t.a == 0x80 && t.f == 0x00 && t.pc == 0xC001 && t.cycleCounter == 2) = true := by
  decide

/-- LD (DE),A (R209) -/
theorem test_v10 :
    after (code ({ base with d := 0xC2, e := 0x01, a := 0x01 }) [0x12])
      (fun t =>
        t.f == 0x00 && t.pc == 0xC001 && t.read8 0xC201 == 0x01 && t.cycleCounter == 2) = true := by
  decide

/-- LD A,(a16) (R210) -/
theorem test_v11 :
    after (code ({ base with mem := ram [(0xC300, 0x21)] }) [0xFA, 0x00, 0xC3])
      (fun t =>
        t.a == 0x21 && t.f == 0x00 && t.pc == 0xC003 && t.cycleCounter == 4) = true := by
  decide

/-- LD (a16),A to IE (R211) -/
theorem test_v12 :
    after (code ({ base with a := 0x1F }) [0xEA, 0xFF, 0xFF])
      (fun t =>
        t.f == 0x00 && t.pc == 0xC003 && t.read8 0xFFFF == 0x1F && t.cycleCounter == 4) = true := by
  decide

/-- LDH A,(0x04) reads DIV (R212) -/
theorem test_v13 :
    after (code ({ base with mem := ram [(0xFF04, 0x2A)] }) [0xF0, 0x04])
      (fun t =>
        t.a == 0x2A && t.f == 0x00 && t.pc == 0xC002 && t.cycleCounter == 3) = true := by
  decide

/-- LDH (0x07),A writes TAC (R213) -/
theorem test_v14 :
    after (code ({ base with a := 0x05 }) [0xE0, 0x07])
      (fun t =>
        t.f == 0x00 && t.pc == 0xC002 && t.timaCounter == 1021 && t.read8 0xFF07 == 0x05 && t.cycleCounter == 3) = true := by
  decide

/-- LD A,(C) reads IF (R214) -/
theorem test_v15 :
    after (code ({ base with c := 0x0F, mem := ram [(0xFF0F, 0xE4)] }) [0xF2])
      (fun t =>
        t.a == 0xE4 && t.f == 0x00 && t.pc == 0xC001 && t.cycleCounter == 2) = true := by
  decide

/-- LD (C),A writes TMA (R215) -/
theorem test_v16 :
    after (code ({ base with c := 0x06, a := 0xF0 }) [0xE2])
      (fun t =>
        t.f == 0x00 && t.pc == 0xC001 && t.read8 0xFF06 == 0xF0 && t.cycleCounter == 2) = true := by
  decide

/-- LD (HL+),A at 0xFFFF wraps HL (R216) -/
theorem test_v17 :
    after (code ({ base with h := 0xFF, l := 0xFF, a := 0x11 }) [0x22])
      (fun t =>
        t.f == 0x00 && t.h == 0x00 && t.l == 0x00 && t.pc == 0xC001 && t.read8 0xFFFF == 0x11 &&
        t.cycleCounter == 2) = true := by
  decide

/-- LD A,(HL-) (R219) -/
theorem test_v20 :
    after (code ({ base with h := 0xC0, l := 0x01, mem := ram [(0xC001, 0x33)] }) [0x3A])
      (fun t =>
        t.a == 0x33 && t.f == 0x00 && t.l == 0x00 && t.pc == 0xC001 && t.cycleCounter == 2) = true := by
  decide

/-- LD BC,n16 (R251) -/
theorem test_v22 :
    after (code base [0x01, 0xCD, 0xAB])
      (fun t =>
        t.f == 0x00 && t.b == 0xAB && t.c == 0xCD && t.pc == 0xC003 && t.cycleCounter == 3) = true := by
  decide

/-- LD (0xFFFF),SP wraps to 0x0000 (R252) -/
theorem test_v24 :
    after (code ({ base with sp := 0x1234 }) [0x08, 0xFF, 0xFF])
      (fun t =>
        t.f == 0x00 && t.pc == 0xC003 && t.read8 0x0000 == 0x12 && t.read8 0xFFFF == 0x34 && t.cycleCounter == 5) = true := by
  decide

/-- LD SP,HL (R253) -/
theorem test_v25 :
    after (code ({ base with h := 0xDF, l := 0xF0 }) [0xF9])
      (fun t =>
        t.f == 0x00 && t.sp == 0xDFF0 && t.pc == 0xC001 && t.cycleCounter == 2) = true := by
  decide

/-- LD HL,SP-1, H and C from low byte (R254) -/
theorem test_v27 :
    after (code ({ base with sp := 0x0000 }) [0xF8, 0xFF])
      (fun t =>
        t.f == 0x00 && t.h == 0xFF && t.l == 0xFF && t.pc == 0xC002 && t.cycleCounter == 3) = true := by
  decide

/-- PUSH DE with SP=0x0001 wraps (R255) -/
theorem test_v31 :
    after (code ({ base with sp := 0x0001, d := 0xAB, e := 0xCD }) [0xD5])
      (fun t =>
        t.f == 0x00 && t.sp == 0xFFFF && t.pc == 0xC001 && t.read8 0x0000 == 0xAB && t.read8 0xFFFF == 0xCD &&
        t.cycleCounter == 4) = true := by
  decide

/-- POP HL at SP=0xFFFF (R256) -/
theorem test_v33 :
    after (code ({ base with sp := 0xFFFF, mem := ram [(0xFFFF, 0x77)] }) [0xE1])
      (fun t =>
        t.f == 0x00 && t.l == 0x77 && t.sp == 0x0001 && t.pc == 0xC001 && t.cycleCounter == 3) = true := by
  decide

/-- POP AF drops F[3:0] (R257) -/
theorem test_v34 :
    after (code ({ base with sp := 0xC0FE, mem := ram [(0xC0FE, 0x5F), (0xC0FF, 0x12)] }) [0xF1])
      (fun t =>
        t.a == 0x12 && t.f == 0x50 && t.sp == 0xC100 && t.pc == 0xC001 && t.cycleCounter == 3) = true := by
  decide

/-- ADD A,A 0x80 (R303) -/
theorem test_v37 :
    after (code ({ base with a := 0x80 }) [0x87])
      (fun t =>
        t.a == 0x00 && t.f == 0x90 && t.pc == 0xC001 && t.cycleCounter == 1) = true := by
  decide

/-- ADD A,(HL) (R304) -/
theorem test_v39 :
    after (code ({ base with a := 0x3C, h := 0xC8, l := 0x00, mem := ram [(0xC800, 0x12)] }) [0x86])
      (fun t =>
        t.a == 0x4E && t.f == 0x00 && t.pc == 0xC001 && t.cycleCounter == 2) = true := by
  decide

/-- ADC A,B 0xFF+0x00+1 (R306) -/
theorem test_v42 :
    after (code ({ base with a := 0xFF, b := 0x00, flags := Flags.ofByte 0x10 }) [0x88])
      (fun t =>
        t.a == 0x00 && t.f == 0xB0 && t.pc == 0xC001 && t.cycleCounter == 1) = true := by
  decide

/-- ADC A,n8 (R308) -/
theorem test_v44 :
    after (code ({ base with a := 0xE1, flags := Flags.ofByte 0x10 }) [0xCE, 0x3B])
      (fun t =>
        t.a == 0x1D && t.f == 0x10 && t.pc == 0xC002 && t.cycleCounter == 2) = true := by
  decide

/-- SUB A (R309) -/
theorem test_v46 :
    after (code ({ base with a := 0x42, flags := Flags.ofByte 0x30 }) [0x97])
      (fun t =>
        t.a == 0x00 && t.f == 0xC0 && t.pc == 0xC001 && t.cycleCounter == 1) = true := by
  decide

/-- SUB n8 half borrow (R311) -/
theorem test_v48 :
    after (code ({ base with a := 0x3E }) [0xD6, 0x0F])
      (fun t =>
        t.a == 0x2F && t.f == 0x60 && t.pc == 0xC002 && t.cycleCounter == 2) = true := by
  decide

/-- SBC A,A with C=1 (R312) -/
theorem test_v50 :
    after (code ({ base with a := 0x10, flags := Flags.ofByte 0x10 }) [0x9F])
      (fun t =>
        t.a == 0xFF && t.f == 0x70 && t.pc == 0xC001 && t.cycleCounter == 1) = true := by
  decide

/-- SBC A,(HL) (R313) -/
theorem test_v51 :
    after (code ({ base with
        a := 0x3B, h := 0xC8, l := 0x00, flags := Flags.ofByte 0x10, mem := ram [(0xC800, 0x4F)] }) [0x9E])
      (fun t =>
        t.a == 0xEB && t.f == 0x70 && t.pc == 0xC001 && t.cycleCounter == 2) = true := by
  decide

/-- AND L (R315) -/
theorem test_v54 :
    after (code ({ base with a := 0x5A, l := 0x3F }) [0xA5])
      (fun t =>
        t.a == 0x1A && t.f == 0x20 && t.pc == 0xC001 && t.cycleCounter == 1) = true := by
  decide

/-- AND (HL) (R316) -/
theorem test_v55 :
    after (code ({ base with a := 0x5A, h := 0xC8, l := 0x00, mem := ram [(0xC800, 0x38)] }) [0xA6])
      (fun t =>
        t.a == 0x18 && t.f == 0x20 && t.pc == 0xC001 && t.cycleCounter == 2) = true := by
  decide

/-- XOR (HL) (R319) -/
theorem test_v58 :
    after (code ({ base with a := 0xFF, h := 0xC8, l := 0x00, mem := ram [(0xC800, 0x8A)] }) [0xAE])
      (fun t =>
        t.a == 0x75 && t.f == 0x00 && t.pc == 0xC001 && t.cycleCounter == 2) = true := by
  decide

/-- OR 0 with A=0 (R323) -/
theorem test_v62 :
    after (code ({ base with a := 0x00 }) [0xF6, 0x00])
      (fun t =>
        t.f == 0x80 && t.pc == 0xC002 && t.cycleCounter == 2) = true := by
  decide

/-- CP (HL) borrow (R325) -/
theorem test_v64 :
    after (code ({ base with a := 0x3C, h := 0xC8, l := 0x00, mem := ram [(0xC800, 0x40)] }) [0xBE])
      (fun t =>
        t.f == 0x50 && t.pc == 0xC001 && t.cycleCounter == 2) = true := by
  decide

/-- CP n8 equal (R326) -/
theorem test_v65 :
    after (code ({ base with a := 0x3C }) [0xFE, 0x3C])
      (fun t =>
        t.f == 0xC0 && t.pc == 0xC002 && t.cycleCounter == 2) = true := by
  decide

/-- INC B 0xFF, C kept (R327) -/
theorem test_v66 :
    after (code ({ base with b := 0xFF, flags := Flags.ofByte 0x10 }) [0x04])
      (fun t =>
        t.f == 0xB0 && t.b == 0x00 && t.pc == 0xC001 && t.cycleCounter == 1) = true := by
  decide

/-- INC D targets D, not E (HFE §9) (R327) -/
theorem test_v68 :
    after (code ({ base with d := 0x41, e := 0x77 }) [0x14])
      (fun t =>
        t.f == 0x00 && t.d == 0x42 && t.pc == 0xC001 && t.cycleCounter == 1) = true := by
  decide

/-- DEC C 0x00, C kept (R329) -/
theorem test_v70 :
    after (code ({ base with c := 0x00, flags := Flags.ofByte 0x10 }) [0x0D])
      (fun t =>
        t.f == 0x70 && t.c == 0xFF && t.pc == 0xC001 && t.cycleCounter == 1) = true := by
  decide

/-- DEC (HL) (R330) -/
theorem test_v73 :
    after (code ({ base with h := 0xC8, l := 0x00, flags := Flags.ofByte 0x10 }) [0x35])
      (fun t =>
        t.f == 0x70 && t.pc == 0xC001 && t.read8 0xC800 == 0xFF && t.cycleCounter == 3) = true := by
  decide

/-- DAA after 0x99+0x01 (A=0x9A, H=0) (R331) -/
theorem test_v76 :
    after (code ({ base with a := 0x9A, flags := Flags.ofByte 0x00 }) [0x27])
      (fun t =>
        t.a == 0x00 && t.f == 0x90 && t.pc == 0xC001 && t.cycleCounter == 1) = true := by
  decide

/-- DAA after 0x00-0x01 (A=0xFF, N=1, H=1, C=1) (R331) -/
theorem test_v79 :
    after (code ({ base with a := 0xFF, flags := Flags.ofByte 0x70 }) [0x27])
      (fun t =>
        t.a == 0x99 && t.f == 0x50 && t.pc == 0xC001 && t.cycleCounter == 1) = true := by
  decide

/-- CPL keeps Z and C (R332) -/
theorem test_v82 :
    after (code ({ base with a := 0xFF, flags := Flags.ofByte 0x90 }) [0x2F])
      (fun t =>
        t.a == 0x00 && t.f == 0xF0 && t.pc == 0xC001 && t.cycleCounter == 1) = true := by
  decide

/-- SCF (R333) -/
theorem test_v83 :
    after (code ({ base with flags := Flags.ofByte 0xE0 }) [0x37])
      (fun t =>
        t.f == 0x90 && t.pc == 0xC001 && t.cycleCounter == 1) = true := by
  decide

/-- CCF (R334) -/
theorem test_v84 :
    after (code ({ base with flags := Flags.ofByte 0x90 }) [0x3F])
      (fun t =>
        t.f == 0x80 && t.pc == 0xC001 && t.cycleCounter == 1) = true := by
  decide

/-- ADD HL,BC, Z kept (R351) -/
theorem test_v86 :
    after (code ({ base with h := 0x8A, l := 0x23, b := 0x06, c := 0x05, flags := Flags.ofByte 0x80 }) [0x09])
      (fun t =>
        t.f == 0xA0 && t.h == 0x90 && t.l == 0x28 && t.pc == 0xC001 && t.cycleCounter == 2) = true := by
  decide

/-- ADD HL,SP (R351) -/
theorem test_v89 :
    after (code ({ base with h := 0x0F, l := 0xFF, sp := 0x0001, flags := Flags.ofByte 0x40 }) [0x39])
      (fun t =>
        t.f == 0x20 && t.h == 0x10 && t.l == 0x00 && t.pc == 0xC001 && t.cycleCounter == 2) = true := by
  decide

/-- INC DE 0xFFFF, no flag change (R352) -/
theorem test_v90 :
    after (code ({ base with d := 0xFF, e := 0xFF, flags := Flags.ofByte 0x00 }) [0x13])
      (fun t =>
        t.f == 0x00 && t.d == 0x00 && t.e == 0x00 && t.pc == 0xC001 && t.cycleCounter == 2) = true := by
  decide

/-- DEC BC 0x0000 (R353) -/
theorem test_v93 :
    after (code ({ base with b := 0x00, c := 0x00, flags := Flags.ofByte 0xF0 }) [0x0B])
      (fun t =>
        t.f == 0xF0 && t.b == 0xFF && t.c == 0xFF && t.pc == 0xC001 && t.cycleCounter == 2) = true := by
  decide

/-- ADD SP,-2 from 0x0000 (R354) -/
theorem test_v97 :
    after (code ({ base with sp := 0x0000 }) [0xE8, 0xFE])
      (fun t =>
        t.f == 0x00 && t.sp == 0xFFFE && t.pc == 0xC002 && t.cycleCounter == 4) = true := by
  decide

/-- RLCA A=0x00, Z set under ResultZero (R401) -/
theorem test_v100 :
    after (code ({ base with a := 0x00 }) [0x07])
      (fun t =>
        t.f == 0x80 && t.pc == 0xC001 && t.cycleCounter == 1) = true := by
  decide

/-- RLCA A=0x00 (ACC_ROTATE_Z=AlwaysClear) (R401) -/
theorem test_v101 :
    after (code ({ base with a := 0x00, cfg := { Config.default with accRotateZ := .alwaysClear } }) [0x07])
      (fun t =>
        t.f == 0x00 && t.pc == 0xC001 && t.cycleCounter == 1) = true := by
  decide

/-- RRCA (R402) -/
theorem test_v102 :
    after (code ({ base with a := 0x3B }) [0x0F])
      (fun t =>
        t.a == 0x9D && t.f == 0x10 && t.pc == 0xC001 && t.cycleCounter == 1) = true := by
  decide

/-- RLA with C=1 (R403) -/
theorem test_v103 :
    after (code ({ base with a := 0x95, flags := Flags.ofByte 0x10 }) [0x17])
      (fun t =>
        t.a == 0x2B && t.f == 0x10 && t.pc == 0xC001 && t.cycleCounter == 1) = true := by
  decide

/-- RRA (R404) -/
theorem test_v106 :
    after (code ({ base with a := 0x81 }) [0x1F])
      (fun t =>
        t.a == 0x40 && t.f == 0x10 && t.pc == 0xC001 && t.cycleCounter == 1) = true := by
  decide

/-- RLC B (R405) -/
theorem test_v107 :
    after (code ({ base with b := 0x85 }) [0xCB, 0x00])
      (fun t =>
        t.f == 0x10 && t.b == 0x0B && t.pc == 0xC002 && t.cycleCounter == 2) = true := by
  decide

/-- RLC (HL) zero (R406) -/
theorem test_v108 :
    after (code ({ base with h := 0xC8, l := 0x00, flags := Flags.ofByte 0x70 }) [0xCB, 0x06])
      (fun t =>
        t.f == 0x80 && t.pc == 0xC002 && t.read8 0xC800 == 0x00 && t.cycleCounter == 4) = true := by
  decide

/-- RRC (HL) (R408) -/
theorem test_v110 :
    after (code ({ base with h := 0xC8, l := 0x00, mem := ram [(0xC800, 0x02)] }) [0xCB, 0x0E])
      (fun t =>
        t.f == 0x00 && t.pc == 0xC002 && t.read8 0xC800 == 0x01 && t.cycleCounter == 4) = true := by
  decide

/-- RL L to zero (R409) -/
theorem test_v111 :
    after (code ({ base with l := 0x80 }) [0xCB, 0x15])
      (fun t =>
        t.f == 0x90 && t.l == 0x00 && t.pc == 0xC002 && t.cycleCounter == 2) = true := by
  decide

/-- RR (HL) with C=1 (R412) -/
theorem test_v114 :
    after (code ({ base with
        h := 0xC8, l := 0x00, flags := Flags.ofByte 0x10, mem := ram [(0xC800, 0x8A)] }) [0xCB, 0x1E])
      (fun t =>
        t.f == 0x00 && t.pc == 0xC002 && t.read8 0xC800 == 0xC5 && t.cycleCounter == 4) = true := by
  decide

/-- SLA D (R413) -/
theorem test_v115 :
    after (code ({ base with d := 0x80 }) [0xCB, 0x22])
      (fun t =>
        t.f == 0x90 && t.d == 0x00 && t.pc == 0xC002 && t.cycleCounter == 2) = true := by
  decide

/-- SRA (HL) (R416) -/
theorem test_v118 :
    after (code ({ base with h := 0xC8, l := 0x00, mem := ram [(0xC800, 0x01)] }) [0xCB, 0x2E])
      (fun t =>
        t.f == 0x90 && t.pc == 0xC002 && t.read8 0xC800 == 0x00 && t.cycleCounter == 4) = true := by
  decide

/-- SWAP A zero clears C (R417) -/
theorem test_v119 :
    after (code ({ base with a := 0x00, flags := Flags.ofByte 0x10 }) [0xCB, 0x37])
      (fun t =>
        t.f == 0x80 && t.pc == 0xC002 && t.cycleCounter == 2) = true := by
  decide

/-- SWAP (HL) (R418) -/
theorem test_v121 :
    after (code ({ base with h := 0xC8, l := 0x00, mem := ram [(0xC800, 0xF0)] }) [0xCB, 0x36])
      (fun t =>
        t.f == 0x00 && t.pc == 0xC002 && t.read8 0xC800 == 0x0F && t.cycleCounter == 4) = true := by
  decide

/-- SRL (HL) (R420) -/
theorem test_v123 :
    after (code ({ base with h := 0xC8, l := 0x00, mem := ram [(0xC800, 0xFF)] }) [0xCB, 0x3E])
      (fun t =>
        t.f == 0x10 && t.pc == 0xC002 && t.read8 0xC800 == 0x7F && t.cycleCounter == 4) = true := by
  decide

/-- BIT 0,A clear (R421) -/
theorem test_v125 :
    after (code ({ base with a := 0xFE, flags := Flags.ofByte 0x40 }) [0xCB, 0x47])
      (fun t =>
        t.f == 0xA0 && t.pc == 0xC002 && t.cycleCounter == 2) = true := by
  decide

/-- BIT 0,(HL) (R422) -/
theorem test_v126 :
    after (code ({ base with h := 0xC8, l := 0x00, mem := ram [(0xC800, 0xFE)] }) [0xCB, 0x46])
      (fun t =>
        t.f == 0xA0 && t.pc == 0xC002 && t.cycleCounter == 3) = true := by
  decide

/-- RES 7,A (R423) -/
theorem test_v127 :
    after (code ({ base with a := 0x80, flags := Flags.ofByte 0xF0 }) [0xCB, 0xBF])
      (fun t =>
        t.a == 0x00 && t.f == 0xF0 && t.pc == 0xC002 && t.cycleCounter == 2) = true := by
  decide

/-- RES 0,(HL) on IF (R424) -/
theorem test_v128 :
    after (code ({ base with h := 0xFF, l := 0x0F, mem := ram [(0xFF0F, 0x05)] }) [0xCB, 0x86])
      (fun t =>
        t.f == 0x00 && t.pc == 0xC002 && t.read8 0xFF0F == 0x04 && t.cycleCounter == 4) = true := by
  decide

/-- SET 3,E (R425) -/
theorem test_v129 :
    after (code ({ base with e := 0x00 }) [0xCB, 0xDB])
      (fun t =>
        t.f == 0x00 && t.e == 0x08 && t.pc == 0xC002 && t.cycleCounter == 2) = true := by
  decide

/-- SET 7,(HL) (R426) -/
theorem test_v130 :
    after (code ({ base with h := 0xC8, l := 0x00, mem := ram [(0xC800, 0x01)] }) [0xCB, 0xFE])
      (fun t =>
        t.f == 0x00 && t.pc == 0xC002 && t.read8 0xC800 == 0x81 && t.cycleCounter == 4) = true := by
  decide

/-- JP a16 (R451) -/
theorem test_v131 :
    after (code base [0xC3, 0x50, 0x01])
      (fun t =>
        t.f == 0x00 && t.pc == 0x0150 && t.cycleCounter == 4) = true := by
  decide

/-- JP NZ not taken (R452) -/
theorem test_v133 :
    after (code ({ base with flags := Flags.ofByte 0x80 }) [0xC2, 0x00, 0x20])
      (fun t =>
        t.f == 0x80 && t.pc == 0xC003 && t.cycleCounter == 3) = true := by
  decide

/-- JP C taken (R452) -/
theorem test_v134 :
    after (code ({ base with flags := Flags.ofByte 0x10 }) [0xDA, 0x34, 0x12])
      (fun t =>
        t.f == 0x10 && t.pc == 0x1234 && t.cycleCounter == 4) = true := by
  decide

/-- JP HL (R453) -/
theorem test_v135 :
    after (code ({ base with h := 0xD0, l := 0x00 }) [0xE9])
      (fun t =>
        t.f == 0x00 && t.pc == 0xD000 && t.cycleCounter == 1) = true := by
  decide

/-- JR -0x80 at 0x0010 wraps (R454) -/
theorem test_v139 :
    after (code ({ base with pc := 0x0010 }) [0x18, 0x80])
      (fun t =>
        t.f == 0x00 && t.pc == 0xFF92 && t.cycleCounter == 3) = true := by
  decide

/-- JR NZ,-5 taken (R455) -/
theorem test_v140 :
    after (code ({ base with flags := Flags.ofByte 0x00 }) [0x20, 0xFB])
      (fun t =>
        t.f == 0x00 && t.pc == 0xBFFD && t.cycleCounter == 3) = true := by
  decide

/-- JR Z not taken (JR_CC_NOT_TAKEN_CYCLES=2) (R455) -/
theorem test_v142 :
    after (code ({ base with
        flags := Flags.ofByte 0x00, cfg := { Config.default with jrCcNotTakenCycles := 2 } }) [0x28, 0x10])
      (fun t =>
        t.f == 0x00 && t.pc == 0xC002 && t.cycleCounter == 2) = true := by
  decide

/-- CALL a16 (R456) -/
theorem test_v145 :
    after (code base [0xCD, 0x00, 0x20])
      (fun t =>
        t.f == 0x00 && t.sp == 0xFFFC && t.pc == 0x2000 && t.read8 0xFFFC == 0x03 && t.read8 0xFFFD == 0xC0 &&
        t.cycleCounter == 6) = true := by
  decide

/-- CALL C taken (R457) -/
theorem test_v147 :
    after (code ({ base with flags := Flags.ofByte 0x10, sp := 0xD000 }) [0xDC, 0x00, 0x05])
      (fun t =>
        t.f == 0x10 && t.sp == 0xCFFE && t.pc == 0x0500 && t.read8 0xCFFE == 0x03 && t.read8 0xCFFF == 0xC0 &&
        t.cycleCounter == 6) = true := by
  decide

/-- CALL Z not taken (R457) -/
theorem test_v148 :
    after (code ({ base with flags := Flags.ofByte 0x00 }) [0xCC, 0x00, 0x05])
      (fun t =>
        t.f == 0x00 && t.pc == 0xC003 && t.cycleCounter == 3) = true := by
  decide

/-- RET (R458) -/
theorem test_v149 :
    after (code ({ base with sp := 0xFFFC, mem := ram [(0xFFFC, 0x53), (0xFFFD, 0x01)] }) [0xC9])
      (fun t =>
        t.f == 0x00 && t.sp == 0xFFFE && t.pc == 0x0153 && t.cycleCounter == 4) = true := by
  decide

/-- RET Z taken (R459) -/
theorem test_v150 :
    after (code ({ base with
        flags := Flags.ofByte 0x80, sp := 0xFFFC, mem := ram [(0xFFFC, 0x53), (0xFFFD, 0x01)] }) [0xC8])
      (fun t =>
        t.f == 0x80 && t.sp == 0xFFFE && t.pc == 0x0153 && t.cycleCounter == 5) = true := by
  decide

/-- RET NZ not taken (R459) -/
theorem test_v151 :
    after (code ({ base with
        flags := Flags.ofByte 0x80, sp := 0xFFFC, mem := ram [(0xFFFC, 0x53), (0xFFFD, 0x01)] }) [0xC0])
      (fun t =>
        t.f == 0x80 && t.pc == 0xC001 && t.cycleCounter == 2) = true := by
  decide

/-- RETI (R460) -/
theorem test_v153 :
    after (code ({ base with sp := 0xFFFA, mem := ram [(0xFFFA, 0x34), (0xFFFB, 0x12)] }) [0xD9])
      (fun t =>
        t.f == 0x00 && t.sp == 0xFFFC && t.pc == 0x1234 && t.ime == true && t.cycleCounter == 4) = true := by
  decide

/-- RST 0x08 (R461) -/
theorem test_v155 :
    after (code base [0xCF])
      (fun t =>
        t.f == 0x00 && t.sp == 0xFFFC && t.pc == 0x0008 && t.read8 0xFFFC == 0x01 && t.read8 0xFFFD == 0xC0 &&
        t.cycleCounter == 4) = true := by
  decide

/-- NOP at 0xFFFF wraps pc (R500) -/
theorem test_v157 :
    after (code ({ base with pc := 0xFFFF }) [0x00])
      (fun t =>
        t.f == 0x00 && t.pc == 0x0000 && t.cycleCounter == 1) = true := by
  decide

/-- HALT, IME=1, nothing pending (R501) -/
theorem test_v158 :
    after (code ({ base with ime := true, mem := ram [(0xFFFF, 0x04)] }) [0x76])
      (fun t =>
        t.f == 0x00 && t.pc == 0xC001 && t.halted == true && t.cycleCounter == 1) = true := by
  decide

/-- DI (R503) -/
theorem test_v164 :
    after (code ({ base with ime := true }) [0xF3])
      (fun t =>
        t.f == 0x00 && t.pc == 0xC001 && t.ime == false && t.cycleCounter == 1) = true := by
  decide

/-- EI, nothing pending (R504) -/
theorem test_v165 :
    after (code base [0xFB])
      (fun t =>
        t.f == 0x00 && t.pc == 0xC001 && t.ime == true && t.cycleCounter == 1) = true := by
  decide

/-- bit 4 only, IF upper bits kept (R612) -/
theorem test_v184 :
    after (code ({ base with ime := true, mem := ram [(0xFF0F, 0xF0), (0xFFFF, 0xFF)] }) [0x00])
      (fun t =>
        t.f == 0x00 && t.sp == 0xFFFC && t.pc == 0x0060 && t.ime == false && t.read8 0xFF0F == 0xE0 &&
        t.read8 0xFFFC == 0x01 && t.read8 0xFFFD == 0xC0 && t.cycleCounter == 1) = true := by
  decide

/-- IME=0: request stays pending (R612) -/
theorem test_v186 :
    after (code ({ base with ime := false, mem := ram [(0xFF0F, 0x01), (0xFFFF, 0x1F)] }) [0x00])
      (fun t =>
        t.f == 0x00 && t.pc == 0xC001 && t.cycleCounter == 1) = true := by
  decide

/-- dispatch cost 5 (INT_DISPATCH_CYCLES=5) (R615) -/
theorem test_v189 :
    after (code ({ base with
        ime := true, cfg := { Config.default with intDispatchCycles := 5 }, mem := ram [(0xFF0F, 0x01), (0xFFFF, 0x01)] }) [0x00])
      (fun t =>
        t.f == 0x00 && t.sp == 0xFFFC && t.pc == 0x0040 && t.ime == false && t.read8 0xFF0F == 0x00 &&
        t.read8 0xFFFC == 0x01 && t.read8 0xFFFD == 0xC0 && t.cycleCounter == 6) = true := by
  decide

/-- divider wraps 0xFF -> 0x00 (R621) -/
theorem test_v191 :
    after (code ({ base with divCounter := 1, mem := ram [(0xFF04, 0xFF)] }) [0x00])
      (fun t =>
        t.f == 0x00 && t.pc == 0xC001 && t.divCounter == 256 && t.read8 0xFF04 == 0x00 && t.cycleCounter == 1) = true := by
  decide

/-- TAC=0x01 (disabled): countdown frozen (R623) -/
theorem test_v194 :
    after (code ({ base with timaCounter := 1, mem := ram [(0xFF05, 0x10), (0xFF07, 0x01)] }) [0x00])
      (fun t =>
        t.f == 0x00 && t.pc == 0xC001 && t.divCounter == 255 && t.cycleCounter == 1) = true := by
  decide

/-- overflow with IF upper bits set (R624) -/
theorem test_v197 :
    after (code ({ base with
        timaCounter := 1, mem := ram [(0xFF05, 0xFF), (0xFF06, 0x80), (0xFF07, 0x07), (0xFF0F, 0xE1)] }) [0x00])
      (fun t =>
        t.f == 0x00 && t.pc == 0xC001 && t.divCounter == 255 && t.timaCounter == 256 && t.read8 0xFF05 == 0x80 &&
        t.read8 0xFF0F == 0xE5 && t.cycleCounter == 1) = true := by
  decide

/-- overflow dispatched in same step (R624) -/
theorem test_v198 :
    after (code ({ base with
        ime := true, timaCounter := 1, mem := ram [(0xFF05, 0xFF), (0xFF06, 0x05), (0xFF07, 0x04), (0xFFFF, 0x04)] }) [0x00])
      (fun t =>
        t.f == 0x00 && t.sp == 0xFFFC && t.pc == 0x0050 && t.ime == false && t.divCounter == 255 &&
        t.timaCounter == 1024 && t.read8 0xFF05 == 0x05 && t.read8 0xFF0F == 0x00 && t.read8 0xFFFC == 0x01 &&
        t.read8 0xFFFD == 0xC0 && t.cycleCounter == 1) = true := by
  decide

/-- overflow wakes HALT, IME=0 (R624) -/
theorem test_v199 :
    after (code ({ base with
        halted := true, timaCounter := 1, mem := ram [(0xFF05, 0xFF), (0xFF06, 0x05), (0xFF07, 0x04), (0xFFFF, 0x04)] }) [0x00])
      (fun t =>
        t.f == 0x00 && t.pc == 0xC000 && t.halted == false && t.divCounter == 255 && t.timaCounter == 1024 &&
        t.read8 0xFF05 == 0x05 && t.read8 0xFF0F == 0x04 && t.cycleCounter == 1) = true := by
  decide

/-- HALT with IME = 0 and a request pending does not advance the pc of the next opcode fetch: the second step of V160. -/
theorem test_v160 :
    after (code { base with pc := 0xC001, haltBug := true, mem := ram [(0xFF0F, 0x04), (0xFFFF, 0x04)] } [0x3C])
      (fun t => t.a == 0x01 && t.pc == 0xC001 && t.haltBug == false) = true := by decide

/-- HALT arms the halt bug: the first step of V160. -/
theorem test_v160_halt :
    after (code { base with mem := ram [(0xFF0F, 0x04), (0xFFFF, 0x04)] } [0x76, 0x3C])
      (fun t => t.haltBug && !t.halted && t.pc == 0xC001) = true := by decide

/-- STOP (V163) -/
theorem test_v163 : stepCall (code base [0x10, 0x00]) =
    ({ code base [0x10, 0x00] with fault := some (.unsupported 0x10 0xC000) }, .fault (.unsupported 0x10 0xC000)) := by
  decide

/-- The eleven unassigned opcodes (V169 to V179) -/
theorem test_v169_to_v179 :
    ∀ x ∈ illegalRows, (stepCall (code base [x.1])).2 = .fault (.illegalOpcode x.1 0xC000) := by decide

/-- A fault is sticky (V180). -/
theorem test_v180 : (stepCall (stepCall (code base [0xDD, 0x3C])).1).2 = .fault (.illegalOpcode 0xDD 0xC000) := by decide

/-- A delayed EI takes effect with the next instruction: the second step of V167. -/
theorem test_v167 :
    after (code { base with
        eiPending := true, cfg := { Config.default with eiDelay := true }, mem := ram [(0xFF0F, 0x01), (0xFFFF, 0x01)] } [0x00])
      (fun t => t.pc == 0x0040 && t.ime == false && t.eiPending == false) = true := by decide

/-! ## Witnesses: states and operands that meet the hypotheses of the statements -/

/-- EncodeOfDecodeIsTheBytes: a first byte that is not STOP. -/
theorem test_witness_encode_of_decode :
    (0x3E : Byte) ≠ 0x10 ∧ encode (decode3 0x3E 0x5C 0x00) = [0x3E, 0x5C] := by decide

/-- OnlyElevenFirstBytesAreIllegal: both sides hold at a boundary, 0xD3, and neither at its neighbours. -/
theorem test_witness_unassigned : (decode3 0xD3 0 0).wellFormed = false ∧ (decode3 0xD2 0 0).wellFormed = true ∧
    (decode3 0xD4 0 0).wellFormed = true := by decide

/-- StepRunsTheInstructionAtThePc: running states with and without the halt bug armed, and with an EI pending. -/
theorem test_witness_step_runs :
    (let s := { code base [0x06, 0x42] with haltBug := true }
     s.fault = none ∧ s.halted = false ∧
       decode [s.read8 s.pc, s.read8 s.pc, s.read8 (s.pc + 1)] = .ok (.ld_b_n8 0x06, [0x42])) ∧
    (let s := { code base [0x06, 0x42] with eiPending := true }
     s.fault = none ∧ s.halted = false ∧
       decode [s.read8 s.pc, s.read8 (s.pc + 1), s.read8 (s.pc + 2)] = .ok (.ld_b_n8 0x42, [0x00])) := by decide

/-- StepFaultsExactlyOnIllegalAndStop: each of its three grounds. -/
theorem test_witness_step_faults :
    (match step { base with fault := some (.unsupported 0x10 0xC000) } with
      | .fault f => decide (f = .unsupported 0x10 0xC000) | _ => false) = true ∧
    (match step (code base [0xFD]) with | .fault f => decide (f = .illegalOpcode 0xFD 0xC000) | _ => false) = true ∧
    (match step (code base [0x10]) with | .fault f => decide (f = .unsupported 0x10 0xC000) | _ => false) = true := by
  decide

/-- FaultingStepSetsOnlyTheFaultAndSticks and StepReturnsTheCyclesItCounts. -/
theorem test_witness_step_call :
    (stepCall (code base [0xD3])).2 = .fault (.illegalOpcode 0xD3 0xC000) ∧
    (stepCall (code base [0xCD, 0x00, 0x20])).2 = .ok 6 := by decide

/-- HaltedStepIdlesAndWakes: nothing pending, pending with IME = 0, and pending with IME = 1 without and with a dispatch
cost. -/
theorem test_witness_halted :
    (let s := { base with halted := true }
     let u := (s.charge s.cfg.haltIdleCycles).timerUpdate s.cfg.haltIdleCycles
     s.fault = none ∧ u.read8 0xFFFF &&& u.read8 0xFF0F &&& 0x1F = 0) ∧
    (let s := { base with halted := true, mem := ram [(0xFF0F, 0x10), (0xFFFF, 0x10)] }
     let u := (s.charge s.cfg.haltIdleCycles).timerUpdate s.cfg.haltIdleCycles
     s.fault = none ∧ u.read8 0xFFFF &&& u.read8 0xFF0F &&& 0x1F ≠ 0 ∧ s.ime = false) ∧
    (let s := { base with halted := true, ime := true, mem := ram [(0xFF0F, 0x10), (0xFFFF, 0x10)] }
     let u := (s.charge s.cfg.haltIdleCycles).timerUpdate s.cfg.haltIdleCycles
     s.fault = none ∧ u.read8 0xFFFF &&& u.read8 0xFF0F &&& 0x1F ≠ 0 ∧ s.ime = true ∧ s.cfg.intDispatchCycles = 0 ∧
       ({ u with halted := false } : State).readySource = some 4) ∧
    after { base with
        halted := true, ime := true, cfg := { Config.default with intDispatchCycles := 5 },
        mem := ram [(0xFF0F, 0x10), (0xFFFF, 0x10)] }
      (fun t => t.pc == 0x0060 && t.cycleCounter == 6 && t.divCounter == 250 && !t.halted) = true := by decide

/-- MemoryContractPushAndPop, StoreAtHL, PushPair and every other statement about stored bytes: the bus is FlatRAM, which
meets the contract, and it may be a platform's, whose writes go to its own contents. -/
theorem test_witness_bus :
    base.cfg.memoryBus = .flatRAM ∧ MeetsContract base.cfg.memoryBus ∧
    (let s := { base with cfg := { Config.default with memoryBus := .platform 7 } }
     s.cfg.memoryBus = .platform 7 ∧ (s.write8 0xC000 0x12).mem.ram = s.mem.ram) :=
  ⟨rfl, flatRAM_meetsContract, rfl, rfl⟩

/-- StepKeepsTheInvariant: a state that meets the invariant with EI delayed and pending, whose step completes. -/
theorem test_witness_invariant :
    Inv { State.reset with eiPending := true, cfg := { Config.default with eiDelay := true } } ∧
    after { State.reset with eiPending := true, cfg := { Config.default with eiDelay := true } } (fun t => t.ime) =
      true := by
  refine ⟨⟨by decide, by decide, ⟨by decide, by decide, fun _ => by decide, 0, by decide⟩, ?_⟩, by decide⟩
  exact ⟨by decide, by decide, by decide⟩

/-- NoInstructionTouchesTheBlockOrStrayControlBits: an instruction outside the named ones that completes. -/
theorem test_witness_no_stray :
    (Instr.push_af ∉ [.ei, .di, .reti]) ∧ Instr.push_af ≠ .halt ∧
    (match exec .push_af base with | .next _ => true | _ => false) = true := by decide

/-- InterruptEntryEffect, SecondServiceTakesNothing: nothing ready, and the lowest and the highest source ready, with and
without a dispatch cost; the control bits of the last agree. -/
theorem test_witness_ready :
    ({ base with mem := ram [(0xFF0F, 0x1F), (0xFFFF, 0x1F)] } : State).readySource = none ∧
    ({ base with ime := true, mem := ram [(0xFF0F, 0x1F), (0xFFFF, 0x1F)] } : State).readySource = some 0 ∧
    (let s := { base with ime := true, mem := ram [(0xFF0F, 0x1F), (0xFFFF, 0x10)] }
     { s with cfg := { Config.default with intDispatchCycles := 5 } } : State).readySource = some 4 ∧
    ControlBitsAgree { base with ime := true, mem := ram [(0xFF0F, 0x1F), (0xFFFF, 0x10)] } := by
  refine ⟨by decide, by decide, by decide, by decide, by decide, by decide⟩

/-- DividerCountsDownAndAdvancesDIV: the last cycle before expiry and the cycle of expiry. -/
theorem test_witness_divider :
    0 < ({ base with divCounter := 2 } : State).divCounter - ((1 : Nat) : Int) ∧
    ({ base with divCounter := 1 } : State).divCounter - ((1 : Nat) : Int) ≤ 0 := by decide

/-- CounterCountsDownAndReloadsTIMA: gated, counting, expiring below 0xFF and at 0xFF. -/
theorem test_witness_counter :
    (let s := { base with mem := ram [(0xFF07, 0x03)] }
     ¬ (s.cfg.tacEnableGates = false ∨ (s.read8 0xFF07).getLsbD 2 = true)) ∧
    (let s := { base with timaCounter := 2, mem := ram [(0xFF07, 0x05)] }
     (s.read8 0xFF07).getLsbD 2 = true ∧ 0 < s.timaCounter - ((1 : Nat) : Int)) ∧
    (let s := { base with timaCounter := 1, mem := ram [(0xFF05, 0xFE), (0xFF07, 0x05)] }
     (s.read8 0xFF07).getLsbD 2 = true ∧ s.timaCounter - ((1 : Nat) : Int) ≤ 0 ∧ s.read8 0xFF05 ≠ 0xFF) ∧
    (let s := { base with timaCounter := 1, mem := ram [(0xFF05, 0xFF), (0xFF07, 0x05)] }
     (s.read8 0xFF07).getLsbD 2 = true ∧ s.timaCounter - ((1 : Nat) : Int) ≤ 0 ∧ s.read8 0xFF05 = 0xFF) := by decide

/-- The base state with a budget of 4 cycles a frame. -/
def budget4 (bytes : List Byte) : State := { code base bytes with cfg := { Config.default with systemClockRate := 240 } }

/-- FrameStopsAtTheFirstStepPastItsBudget and FrameAlwaysEnds: a budget of 4, overrun by a 3-cycle jump to itself; the second
call of step is the first that reaches the budget. -/
theorem test_witness_frame :
    CostsPositive (budget4 [0x18, 0xFE]).cfg ∧
    FrameReturns (budget4 [0x18, 0xFE]) (runFrame 2 (budget4 [0x18, 0xFE])).1 (.ok 6) ∧
    (okCalls 1 (budget4 [0x18, 0xFE])).map State.cycleCounter = some 3 ∧
    (okCalls 2 (budget4 [0x18, 0xFE])).map State.cycleCounter = some 6 ∧
    CostsPositive Config.default := by
  refine ⟨⟨rfl, by decide, by decide⟩, ⟨by decide, 2, Prod.ext rfl ?_⟩, by decide, by decide, ⟨rfl, by decide, by decide⟩⟩
  decide

/-- A frame is not cut off after as many steps as its budget has cycles: a budget of 1, a JR not taken at cost 0, a JP. -/
theorem test_frame_goes_on_past_a_free_step :
    (runFrame 2 { code base [0x20, 0x00, 0xC3, 0x00, 0xC0] with
      flags := Flags.ofByte 0x80,
      cfg := { Config.default with systemClockRate := 60, jrCcNotTakenCycles := 0 } }).2 = .ok 4 := by decide

/-- FaultEndsTheFrame: a frame with a budget that meets an unassigned opcode. -/
theorem test_witness_frame_fault :
    FrameReturns (budget4 [0x00, 0xD3]) (runFrame 2 (budget4 [0x00, 0xD3])).1 (.fault (.illegalOpcode 0xD3 0xC001)) ∧
    0 < (budget4 [0x00, 0xD3]).cfg.systemClockRate / 60 := by
  refine ⟨⟨by decide, 2, Prod.ext rfl ?_⟩, by decide⟩
  decide

/-- HostResetSetsTheDocumentedState and ShortOrMissingBootImageFails: images of BOOT_LEN bytes, one more and one less. -/
theorem test_witness_reset :
    base.cfg.bootLen ≤ (List.replicate 256 (0x11 : Byte)).length ∧ base.cfg.bootLen ≤ 65536 ∧
    base.cfg.bootLen ≤ (List.replicate 257 (0x11 : Byte)).length ∧
    (List.replicate 255 (0x11 : Byte)).length < base.cfg.bootLen := by
  simp only [List.length_replicate]
  decide

/-- AddAndAddWithCarry, SubtractWithCarryAndCompare, LogicOperations, PrefixedRotates, PrefixedShiftsAndSwap: each named
operation is one of those of its statement. -/
theorem test_witness_operations :
    (AluOp.adc = .add ∨ AluOp.adc = .adc) ∧ (AluOp.cp = .sub ∨ AluOp.cp = .sbc ∨ AluOp.cp = .cp) ∧
    (AluOp.or = .and ∨ AluOp.or = .xor ∨ AluOp.or = .or) ∧
    (ShiftOp.rr = .rlc ∨ ShiftOp.rr = .rrc ∨ ShiftOp.rr = .rl ∨ ShiftOp.rr = .rr) ∧
    (ShiftOp.srl = .sla ∨ ShiftOp.srl = .sra ∨ ShiftOp.srl = .swap ∨ ShiftOp.srl = .srl) := by decide

/-- DecimalAdditionIsDecimal: 99 + 1. -/
theorem test_witness_decimal :
    let s := { base with a := 0x99, b := 0x01 }
    (99 < 100 ∧ 1 < 100) ∧ s.a = BitVec.ofNat 8 (99 / 10 * 16 + 99 % 10) ∧
      s.b = BitVec.ofNat 8 (1 / 10 * 16 + 1 % 10) := by
  decide

/-- PairsAreViewsOfTheirHalves, LoadPairAndSP, PairArithmetic: a pair that is not SP. -/
theorem test_witness_pair : Reg16.hl ≠ .sp := by decide

/-- AbsoluteJumps, RelativeJumps, CallsAndRestarts, Returns: every condition holds in one state and fails in another. -/
theorem test_witness_conditions :
    (CondHolds base .nz ∧ CondHolds base .nc ∧ ¬ CondHolds base .z ∧ ¬ CondHolds base .c) ∧
    (let s := { base with flags := Flags.ofByte 0x90 }
     CondHolds s .z ∧ CondHolds s .c ∧ ¬ CondHolds s .nz ∧ ¬ CondHolds s .nc) := by
  refine ⟨⟨rfl, rfl, ?_, ?_⟩, rfl, rfl, ?_, ?_⟩ <;> (intro h; cases h)

/-- NopAndInterruptEnableInstructions: EI delayed, and not. -/
theorem test_witness_ei :
    ({ Config.default with eiDelay := true } : Config).eiDelay = true ∧ base.cfg.eiDelay = false := by decide

/-- HaltHaltsOrArmsTheHaltBug: both of its cases. -/
theorem test_witness_halt :
    (let s := { base with mem := ram [(0xFF0F, 0x04), (0xFFFF, 0x04)] }
     s.ime = false ∧ s.read8 0xFFFF &&& s.read8 0xFF0F &&& 0x1F ≠ 0 ∧ s.cfg.haltBug = true) ∧
    ¬ (base.ime = false ∧ base.read8 0xFFFF &&& base.read8 0xFF0F &&& 0x1F ≠ 0 ∧ base.cfg.haltBug = true) := by
  decide

/-- StopAndIllegalOpcodesFault: a running state with STOP at the pc, and one with each unassigned opcode. -/
theorem test_witness_stop :
    (let s := code base [0x10]
     s.fault = none ∧ s.halted = false ∧ s.read8 s.pc = 0x10) ∧
    (∀ v : Byte, (code base [v]).fault = none ∧ (code base [v]).halted = false) ∧
    (illegalRows.map fun x => (code base [x.1]).read8 (code base [x.1]).pc) = illegalRows.map Prod.fst := by
  refine ⟨by decide, fun _ => ⟨rfl, rfl⟩, by decide⟩

end Sys2Proof.Tests
end

section
/-! PROOFS. The memory contract (R101 to R104, R110) and the stack (R105, R106): the rules for a platform's bus, for word
stores and for pushes that later proofs cite, and the statement of the two together. -/

namespace Sys2Proof.Machine

/-! ## A platform's bus -/

/-- A byte read on a platform's bus is the platform's read (R10, R110). -/
theorem State.read8_platform {s : State} {k : Nat} (hb : s.cfg.memoryBus = .platform k) (a : Word) :
    s.read8 a = MemoryBus.platformRead k s.mem.platform a := by
  rw [State.read8, hb, Store.read]

/-- A byte store on a platform's bus is the platform's write (R10, R110). -/
theorem State.write8_platform {s : State} {k : Nat} (hb : s.cfg.memoryBus = .platform k) (a : Word) (b : Byte) :
    (s.write8 a b).mem.platform = MemoryBus.platformWrite k s.mem.platform a b := by
  rw [State.write8_mem, hb, Store.write]

/-! ## Word stores and pushes -/

theorem State.writeWord_stores (s : State) (a v : Word) : Stores s (s.writeWord a v) [(a, lo v), (a + 1, hi v)] :=
  Stores.of_mem (congrArg State.mem (s.writeWord_writes a v)) (s.writeWord_cfg a v)

theorem State.push16_stores (s : State) (v : Word) : Stores s (s.push16 v) [(s.sp - 1, hi v), (s.sp - 2, lo v)] :=
  Stores.of_mem (s.push16_mem v) (s.push16_cfg v)

/-- The high byte survives the store of the low byte, which goes to another address (R105). -/
theorem State.push16_holds_hi (s : State) (v : Word) : Holds s (s.push16 v) (s.sp - 1) (hi v) := fun hb => by
  have hne : s.sp - 1 ≠ s.sp - 2 := by bv_omega
  rw [State.push16_read8 hb, if_neg hne, if_pos rfl]

theorem State.push16_holds_lo (s : State) (v : Word) : Holds s (s.push16 v) (s.sp - 2) (lo v) := fun hb => by
  rw [State.push16_read8 hb, if_pos rfl]

/-! ## A pop after a push -/

/-- On FlatRAM a pop takes back the word pushed: its low byte is at the new SP, its high byte just above (R105, R106). -/
theorem State.push16_popValue {s : State} (hb : s.cfg.memoryBus = .flatRAM) (v : Word) : (s.push16 v).popValue = v := by
  have hsp : s.sp - 2 + 1 = s.sp - 1 := by bv_omega
  rw [State.popValue, State.readWord, State.push16_sp, hsp, State.push16_holds_hi s v hb, State.push16_holds_lo s v hb,
    join_hi_lo]

/-- A pop after a push restores SP on any bus. -/
theorem State.push16_popped_sp (s : State) (v : Word) : (s.push16 v).popped.sp = s.sp := by
  rw [State.popped_sp, State.push16_sp, BitVec.sub_add_cancel]

end Sys2Proof.Machine

namespace Sys2Proof.Proofs

open Sys2Proof Sys2Proof.Machine

/-- Settles O30: FlatRAM answers the last write, so the bytes of a word store and of a push read back; the two addresses of
a push differ, so a pop finds both bytes. -/
theorem memoryContractPushAndPop : Obligations.MemoryContractPushAndPop := by
  unfold Obligations.MemoryContractPushAndPop
  refine ⟨flatRAM_meetsContract, fun s a v b => ⟨?readBack, ?platform, ?onlyMem, ?readWord, ?writeWord, ?pushSP,
    ?pushStores, ?pushHi, ?pushLo, ?popPushed, ?popSP, ?popValue, ?popped⟩⟩
  case readBack => exact fun hb k => State.write8_read8 hb a k b
  case platform => exact fun k hb => ⟨State.read8_platform hb a, State.write8_platform hb a b⟩
  case onlyMem => exact State.writes_only [(a, b)] s
  case readWord => rw [State.readWord]
  case writeWord => exact s.writeWord_stores a v
  case pushSP => exact s.push16_sp v
  case pushStores => exact s.push16_stores v
  case pushHi => exact s.push16_holds_hi v
  case pushLo => exact s.push16_holds_lo v
  case popPushed => exact fun hb => State.push16_popValue hb v
  case popSP => exact s.push16_popped_sp v
  case popValue => rw [State.popValue, State.readWord]
  case popped => rw [State.popped]

end Sys2Proof.Proofs
end

section
/-! PROOFS. The registers (R50 to R55): a pair is a view of its halves, and F has four bits. -/

namespace Sys2Proof

/-! ## Words and their halves -/

theorem toNat_join (h l : Byte) : (join h l).toNat = h.toNat * 256 + l.toNat := by
  rw [join, BitVec.toNat_append, ← Nat.shiftLeft_add_eq_or_of_lt l.isLt, Nat.shiftLeft_eq]

theorem toNat_hi (v : Word) : (hi v).toNat = v.toNat / 256 := by
  rw [hi, BitVec.extractLsb'_toNat, Nat.shiftRight_eq_div_pow]
  omega

theorem toNat_lo (v : Word) : (lo v).toNat = v.toNat % 256 := by
  rw [lo, BitVec.extractLsb'_toNat, Nat.shiftRight_zero]

/-- A bitwise AND of words is that of their halves. -/
theorem join_and_join (h l h' l' : Byte) : join h l &&& join h' l' = join (h &&& h') (l &&& l') :=
  BitVec.and_append

namespace Machine

/-! ## F as a byte -/

/-- A write of a byte to F stores its bits 7 to 4 (R53). -/
theorem Flags.toByte_ofByte (v : Byte) : (Flags.ofByte v).toByte = v &&& 0xF0 := by
  refine BitVec.eq_of_getLsbD_eq fun i hi => ?_
  simp only [Flags.toByte, BitVec.getLsbD_and, BitVec.getLsbD_append]
  interval_cases i <;> simp [Flags.ofByte]

/-- F reads with bits 3 to 0 zero (R53): it is a stored byte, read back. -/
theorem Flags.toByte_and_low (f : Flags) : f.toByte &&& 0x0F = 0 := by
  rw [← f.ofByte_toByte, Flags.toByte_ofByte, BitVec.and_assoc]
  exact BitVec.and_zero

/-! ## Reads after writes of registers -/

theorem State.reg16_setReg16_same (s : State) (r : Reg16) (v : Word) : (s.setReg16 r v).reg16 r = v := by
  cases r with
  | sp => rfl
  | bc | de | hl => exact join_hi_lo v

theorem State.setReg8_sameRegsBut (s : State) (r : Reg8) (v : Byte) : SameRegsBut s (s.setReg8 r v) [r] :=
  fun _ hq => s.setReg8_reg8_other v (List.ne_of_not_mem_cons hq)

theorem State.setReg8_setReg8_sameRegsBut (s : State) (p r : Reg8) (v w : Byte) :
    SameRegsBut s ((s.setReg8 p v).setReg8 r w) [p, r] := by
  intro q hq
  obtain ⟨hp, hr⟩ := List.ne_and_not_mem_of_not_mem_cons hq
  rw [State.setReg8_sameRegsBut _ r w q hr, State.setReg8_reg8_other s v hp]

/-- A write to a pair leaves every register but its halves alone (R52). -/
theorem State.setReg16_sameRegsBut (s : State) (r : Reg16) (v : Word) : SameRegsBut s (s.setReg16 r v) r.halves := by
  cases r with
  | bc | de | hl => exact s.setReg8_setReg8_sameRegsBut _ _ (hi v) (lo v)
  | sp => exact fun q _ => by cases q <;> rfl

theorem State.setReg16_sp_other (s : State) {r : Reg16} (v : Word) (h : r ≠ .sp) : (s.setReg16 r v).sp = s.sp := by
  cases r with
  | sp => exact absurd rfl h
  | bc | de | hl => rfl

/-- A word written to AF is stored with bits 3 to 0 cleared (R53). -/
theorem State.setRegStk_af (s : State) (v : Word) : (s.setRegStk .af v).af = v &&& 0xFFF0 :=
  calc join (hi v) (Flags.ofByte (lo v)).toByte
    _ = join (hi v &&& 0xFF) (lo v &&& 0xF0) := by rw [Flags.toByte_ofByte, show hi v &&& 0xFF = hi v from BitVec.and_allOnes]
    _ = join (hi v) (lo v) &&& join 0xFF 0xF0 := (join_and_join ..).symm
    _ = v &&& 0xFFF0 := by rw [join_hi_lo]; rfl

end Machine

end Sys2Proof

namespace Sys2Proof.Proofs

open Sys2Proof Sys2Proof.Machine

/-- Settles O28: a pair is the join of its halves, and a write to it splits the value into them. -/
theorem pairsAreViewsOfTheirHalves : Obligations.PairsAreViewsOfTheirHalves := by
  unfold Obligations.PairsAreViewsOfTheirHalves
  intro s v
  refine ⟨toNat_join .., toNat_join .., toNat_join .., toNat_join .., ?pairs, toNat_hi v, toNat_lo v, toNat_hi v,
    toNat_lo v, toNat_hi v, toNat_lo v, toNat_hi v, Flags.toByte_ofByte (lo v), ?bytes⟩
  case pairs =>
    exact fun r => ⟨s.reg16_setReg16_same r v, s.setReg16_sameRegsBut r v, s.setReg16_flags r v, s.setReg16_sp_other v⟩
  case bytes =>
    exact fun r w => ⟨s.setReg8_reg8_same r w, s.setReg8_sameRegsBut r w, s.setReg8_flags r w⟩

/-- Settles O29: F is a byte whose low four bits are constant zeros, and the low half of AF is F. -/
theorem lowNibbleOfFIsZero : Obligations.LowNibbleOfFIsZero := by
  unfold Obligations.LowNibbleOfFIsZero
  intro s v
  refine ⟨s.flags.toByte_and_low, ?afLow, s.setRegStk_af v⟩
  case afLow =>
    calc s.af &&& join 0x00 0x0F
      _ = join (s.a &&& 0x00) (s.f &&& 0x0F) := join_and_join ..
      _ = 0 := by rw [State.f, Flags.toByte_and_low, show s.a &&& 0 = 0 from BitVec.and_zero]; rfl

end Sys2Proof.Proofs
end

section
/-! PROOFS. What an instruction may do to the control bits and the block (R58 to R65): EI, DI, RETI and HALT write the
control bits, and every other instruction works on registers, flags, SP, the pc, memory and the cycle counter alone. -/

namespace Sys2Proof.Machine

/-! ## Effects on data alone -/

/-- From `s` to `t` no control bit, countdown, fault or parameter changes, and memory stays canonical. -/
structure DataOnly (s t : State) : Prop where
  quiet : Quiet s t
  haltBug : t.haltBug = s.haltBug
  wf : s.mem.wf = true → t.mem.wf = true

theorem Quiet.refl (s : State) : Quiet s s := ⟨⟨rfl, rfl, rfl⟩, rfl, rfl, rfl, rfl⟩

theorem DataOnly.trans {s t u : State} (h : DataOnly s t) (h' : DataOnly t u) : DataOnly s u := by
  obtain ⟨⟨⟨hime, hei, hhalted⟩, hdiv, htima, hfault, hcfg⟩, hbug, hwf⟩ := h'
  obtain ⟨⟨gime, gei, ghalted⟩, gdiv, gtima, gfault, gcfg⟩ := h.quiet
  exact ⟨⟨⟨hime.trans gime, hei.trans gei, hhalted.trans ghalted⟩, hdiv.trans gdiv, htima.trans gtima,
    hfault.trans gfault, hcfg.trans gcfg⟩, hbug.trans h.haltBug, hwf ∘ h.wf⟩

theorem DataOnly.charge {s t : State} (h : DataOnly s t) (n : Nat) : DataOnly s (t.charge n) :=
  ⟨h.quiet, h.haltBug, h.wf⟩

section
variable (s : State)

theorem State.write8_dataOnly (a : Word) (v : Byte) : DataOnly s (s.write8 a v) :=
  ⟨Quiet.refl s, rfl, s.write8_wf a v⟩

theorem State.writeWord_dataOnly (a v : Word) : DataOnly s (s.writeWord a v) :=
  ⟨Quiet.refl s, rfl, s.writeWord_wf a v⟩

theorem State.push16_dataOnly (v : Word) : DataOnly s (s.push16 v) :=
  ⟨Quiet.refl s, rfl, s.push16_wf v⟩

theorem State.call_dataOnly (a : Word) : DataOnly s (s.call a) :=
  ⟨Quiet.refl s, rfl, s.push16_wf s.pc⟩

theorem State.putAtHL_dataOnly (x : Alu8) : DataOnly s (s.putAtHL x) :=
  ⟨Quiet.refl s, rfl, s.write8_wf s.hl x.res⟩

theorem State.setReg8_dataOnly (r : Reg8) (v : Byte) : DataOnly s (s.setReg8 r v) := by
  cases r <;> exact ⟨Quiet.refl s, rfl, id⟩

theorem State.setHL_dataOnly (v : Word) : DataOnly s (s.setHL v) := ⟨Quiet.refl s, rfl, id⟩

theorem State.putReg_dataOnly (r : Reg8) (x : Alu8) : DataOnly s (s.putReg r x) := by
  cases r <;> exact ⟨Quiet.refl s, rfl, id⟩

theorem State.setReg16_dataOnly (r : Reg16) (v : Word) : DataOnly s (s.setReg16 r v) := by
  cases r <;> exact ⟨Quiet.refl s, rfl, id⟩

theorem State.popped_setRegStk_dataOnly (r : RegStk) (v : Word) : DataOnly s (s.popped.setRegStk r v) := by
  cases r <;> exact ⟨Quiet.refl s, rfl, id⟩

theorem State.alu_dataOnly (op : AluOp) (v : Byte) : DataOnly s (s.alu op v) := ⟨Quiet.refl s, rfl, id⟩

theorem State.loadA_dataOnly (a : Word) : DataOnly s (s.loadA a) := ⟨Quiet.refl s, rfl, id⟩

theorem State.flags_dataOnly (f : Flags) : DataOnly s { s with flags := f } := ⟨Quiet.refl s, rfl, id⟩

theorem State.jump_dataOnly (a : Word) : DataOnly s (s.jump a) := ⟨Quiet.refl s, rfl, id⟩

theorem State.popPC_dataOnly : DataOnly s s.popPC := ⟨Quiet.refl s, rfl, id⟩

end

/-! ## Instructions that act on data alone -/

/-- A next state that `r` answers is away from `s`, its halt bug consumed by the fetch (R150), in data alone. -/
def ActsOnData (s : State) (r : Result) : Prop :=
  ∀ t, r = .next t → DataOnly { s with haltBug := false } t

section
variable {s : State}

theorem ActsOnData.fault (f : Fault) : ActsOnData s (.fault f) := fun _ h => nomatch h

theorem ActsOnData.next {t : State} (h : DataOnly { s with haltBug := false } t) : ActsOnData s (.next t) := by
  rintro _ ⟨rfl⟩
  exact h

theorem ActsOnData.ite {r r' : Result} {p : Prop} [Decidable p] (h : ActsOnData s r) (h' : ActsOnData s r') :
    ActsOnData s (if p then r else r') := by
  split
  · exact h
  · exact h'

/-- An instruction acts on data alone if its effect does. -/
theorem ActsOnData.run {len opcode cycles : Nat} {effect : State → State} (h : ∀ u, DataOnly u (effect u)) :
    ActsOnData s (s.run len opcode cycles effect) := by
  have hpast := (h (s.past len)).charge (costOf s.cfg opcode cycles)
  exact .next ⟨hpast.quiet, hpast.haltBug, hpast.wf⟩

/-- A transfer that is not taken fetches its bytes and counts its cost. -/
theorem ActsOnData.runNotTaken {len opcode cycles : Nat} : ActsOnData s (s.runNotTaken len opcode cycles) :=
  .next ⟨Quiet.refl s, rfl, id⟩

end

/-! ## The operations of the instruction families -/

section
variable (opcode : Nat)

theorem addHLPair_actsOnData (r : Reg16) (s : State) : ActsOnData s (addHLPair opcode r s) :=
  .run fun u => ⟨Quiet.refl u, rfl, id⟩

theorem incPair_actsOnData (r : Reg16) (s : State) : ActsOnData s (incPair opcode r s) :=
  .run fun u => u.setReg16_dataOnly r _

theorem decPair_actsOnData (r : Reg16) (s : State) : ActsOnData s (decPair opcode r s) :=
  .run fun u => u.setReg16_dataOnly r _

theorem aluReg_actsOnData (op : AluOp) (r : Reg8) (s : State) : ActsOnData s (aluReg opcode op r s) :=
  .run fun u => u.alu_dataOnly op _

theorem aluAtHL_actsOnData (op : AluOp) (s : State) : ActsOnData s (aluAtHL opcode op s) :=
  .run fun u => u.alu_dataOnly op _

theorem aluImm_actsOnData (op : AluOp) (n : Byte) (s : State) : ActsOnData s (aluImm opcode op n s) :=
  .run fun u => u.alu_dataOnly op n

theorem incReg_actsOnData (r : Reg8) (s : State) : ActsOnData s (incReg opcode r s) :=
  .run fun u => u.putReg_dataOnly r _

theorem decReg_actsOnData (r : Reg8) (s : State) : ActsOnData s (decReg opcode r s) :=
  .run fun u => u.putReg_dataOnly r _

theorem jpCond_actsOnData (cc : Cond) (a : Word) (s : State) : ActsOnData s (jpCond opcode cc a s) :=
  .ite (.run fun u => u.jump_dataOnly a) .runNotTaken

theorem jrCond_actsOnData (cc : Cond) (e : Byte) (s : State) : ActsOnData s (jrCond opcode cc e s) :=
  .ite (.run fun u => u.jump_dataOnly _) .runNotTaken

theorem callCond_actsOnData (cc : Cond) (a : Word) (s : State) : ActsOnData s (callCond opcode cc a s) :=
  .ite (.run fun u => u.call_dataOnly a) .runNotTaken

theorem retCond_actsOnData (cc : Cond) (s : State) : ActsOnData s (retCond opcode cc s) :=
  .ite (.run fun u => u.popPC_dataOnly) .runNotTaken

theorem rstTo_actsOnData (a : Word) (s : State) : ActsOnData s (rstTo opcode a s) :=
  .run fun u => u.call_dataOnly a

theorem ldPairImm_actsOnData (r : Reg16) (v : Word) (s : State) : ActsOnData s (ldPairImm opcode r v s) :=
  .run fun u => u.setReg16_dataOnly r v

theorem pushPair_actsOnData (r : RegStk) (s : State) : ActsOnData s (pushPair opcode r s) :=
  .run fun u => u.push16_dataOnly _

theorem popPair_actsOnData (r : RegStk) (s : State) : ActsOnData s (popPair opcode r s) :=
  .run fun u => u.popped_setRegStk_dataOnly r _

theorem ldRegReg_actsOnData (dst r : Reg8) (s : State) : ActsOnData s (ldRegReg opcode dst r s) :=
  .run fun u => u.setReg8_dataOnly dst _

theorem ldRegImm_actsOnData (dst : Reg8) (n : Byte) (s : State) : ActsOnData s (ldRegImm opcode dst n s) :=
  .run fun u => u.setReg8_dataOnly dst n

theorem ldRegAtHL_actsOnData (dst : Reg8) (s : State) : ActsOnData s (ldRegAtHL opcode dst s) :=
  .run fun u => u.setReg8_dataOnly dst _

theorem ldAtHLReg_actsOnData (r : Reg8) (s : State) : ActsOnData s (ldAtHLReg opcode r s) :=
  .run fun u => u.write8_dataOnly u.hl _

theorem accRotate_actsOnData (op : ShiftOp) (s : State) : ActsOnData s (accRotate opcode op s) :=
  .run fun u => u.putReg_dataOnly .a _

theorem shiftReg_actsOnData (op : ShiftOp) (r : Reg8) (s : State) : ActsOnData s (shiftReg opcode op r s) :=
  .run fun u => u.putReg_dataOnly r _

theorem shiftAtHL_actsOnData (op : ShiftOp) (s : State) : ActsOnData s (shiftAtHL opcode op s) :=
  .run fun u => u.putAtHL_dataOnly _

theorem bitReg_actsOnData (b : Fin 8) (r : Reg8) (s : State) : ActsOnData s (bitReg opcode b r s) :=
  .run fun u => u.flags_dataOnly _

theorem bitAtHL_actsOnData (b : Fin 8) (s : State) : ActsOnData s (bitAtHL opcode b s) :=
  .run fun u => u.flags_dataOnly _

theorem resReg_actsOnData (b : Fin 8) (r : Reg8) (s : State) : ActsOnData s (resReg opcode b r s) :=
  .run fun u => u.setReg8_dataOnly r _

theorem resAtHL_actsOnData (b : Fin 8) (s : State) : ActsOnData s (resAtHL opcode b s) :=
  .run fun u => u.write8_dataOnly u.hl _

theorem setReg_actsOnData (b : Fin 8) (r : Reg8) (s : State) : ActsOnData s (setReg opcode b r s) :=
  .run fun u => u.setReg8_dataOnly r _

theorem setAtHL_actsOnData (b : Fin 8) (s : State) : ActsOnData s (setAtHL opcode b s) :=
  .run fun u => u.write8_dataOnly u.hl _

end

/-- Every instruction but EI, DI, RETI and HALT acts on data alone: those that do not fault run an effect that does. -/
theorem exec_actsOnData {i : Instr} (s : State) (hi : i ∉ [.ei, .di, .reti, .halt]) : ActsOnData s (exec i s) := by
  cases i
  case ei | di | reti | halt => simp at hi
  case stop | illegal_d3 | illegal_db | illegal_dd | illegal_e3 | illegal_e4 | illegal_eb | illegal_ec | illegal_ed |
      illegal_f4 | illegal_fc | illegal_fd =>
    exact .fault _
  case add_hl_bc | add_hl_de | add_hl_hl | add_hl_sp => exact addHLPair_actsOnData _ _ s
  case inc_bc | inc_de | inc_hl | inc_sp => exact incPair_actsOnData _ _ s
  case dec_bc | dec_de | dec_hl | dec_sp => exact decPair_actsOnData _ _ s
  case add_a_b | add_a_c | add_a_d | add_a_e | add_a_h | add_a_l | add_a_a | adc_a_b | adc_a_c | adc_a_d | adc_a_e |
      adc_a_h | adc_a_l | adc_a_a | sub_b | sub_c | sub_d | sub_e | sub_h | sub_l | sub_a | sbc_a_b | sbc_a_c |
      sbc_a_d | sbc_a_e | sbc_a_h | sbc_a_l | sbc_a_a | and_b | and_c | and_d | and_e | and_h | and_l | and_a | xor_b |
      xor_c | xor_d | xor_e | xor_h | xor_l | xor_a | or_b | or_c | or_d | or_e | or_h | or_l | or_a | cp_b | cp_c |
      cp_d | cp_e | cp_h | cp_l | cp_a =>
    exact aluReg_actsOnData _ _ _ s
  case add_a_atHL | adc_a_atHL | sub_atHL | sbc_a_atHL | and_atHL | xor_atHL | or_atHL | cp_atHL =>
    exact aluAtHL_actsOnData _ _ s
  case add_a_n8 | adc_a_n8 | sub_n8 | sbc_a_n8 | and_n8 | xor_n8 | or_n8 | cp_n8 => exact aluImm_actsOnData _ _ _ s
  case inc_b | inc_c | inc_d | inc_e | inc_h | inc_l | inc_a => exact incReg_actsOnData _ _ s
  case dec_b | dec_c | dec_d | dec_e | dec_h | dec_l | dec_a => exact decReg_actsOnData _ _ s
  case jp_nz_a16 | jp_z_a16 | jp_nc_a16 | jp_c_a16 => exact jpCond_actsOnData _ _ _ s
  case jr_nz_e8 | jr_z_e8 | jr_nc_e8 | jr_c_e8 => exact jrCond_actsOnData _ _ _ s
  case call_nz_a16 | call_z_a16 | call_nc_a16 | call_c_a16 => exact callCond_actsOnData _ _ _ s
  case ret_nz | ret_z | ret_nc | ret_c => exact retCond_actsOnData _ _ s
  case rst_00 | rst_08 | rst_10 | rst_18 | rst_20 | rst_28 | rst_30 | rst_38 => exact rstTo_actsOnData _ _ s
  case ld_bc_n16 | ld_de_n16 | ld_hl_n16 | ld_sp_n16 => exact ldPairImm_actsOnData _ _ _ s
  case push_bc | push_de | push_hl | push_af => exact pushPair_actsOnData _ _ s
  case pop_bc | pop_de | pop_hl | pop_af => exact popPair_actsOnData _ _ s
  case ld_b_b | ld_b_c | ld_b_d | ld_b_e | ld_b_h | ld_b_l | ld_b_a | ld_c_b | ld_c_c | ld_c_d | ld_c_e | ld_c_h |
      ld_c_l | ld_c_a | ld_d_b | ld_d_c | ld_d_d | ld_d_e | ld_d_h | ld_d_l | ld_d_a | ld_e_b | ld_e_c | ld_e_d |
      ld_e_e | ld_e_h | ld_e_l | ld_e_a | ld_h_b | ld_h_c | ld_h_d | ld_h_e | ld_h_h | ld_h_l | ld_h_a | ld_l_b |
      ld_l_c | ld_l_d | ld_l_e | ld_l_h | ld_l_l | ld_l_a | ld_a_b | ld_a_c | ld_a_d | ld_a_e | ld_a_h | ld_a_l |
      ld_a_a =>
    exact ldRegReg_actsOnData _ _ _ s
  case ld_b_n8 | ld_c_n8 | ld_d_n8 | ld_e_n8 | ld_h_n8 | ld_l_n8 | ld_a_n8 => exact ldRegImm_actsOnData _ _ _ s
  case ld_b_atHL | ld_c_atHL | ld_d_atHL | ld_e_atHL | ld_h_atHL | ld_l_atHL | ld_a_atHL =>
    exact ldRegAtHL_actsOnData _ _ s
  case ld_atHL_b | ld_atHL_c | ld_atHL_d | ld_atHL_e | ld_atHL_h | ld_atHL_l | ld_atHL_a =>
    exact ldAtHLReg_actsOnData _ _ s
  case rlca | rrca | rla | rra => exact accRotate_actsOnData _ _ s
  case rlc_b | rlc_c | rlc_d | rlc_e | rlc_h | rlc_l | rlc_a | rrc_b | rrc_c | rrc_d | rrc_e | rrc_h | rrc_l | rrc_a |
      rl_b | rl_c | rl_d | rl_e | rl_h | rl_l | rl_a | rr_b | rr_c | rr_d | rr_e | rr_h | rr_l | rr_a | sla_b | sla_c |
      sla_d | sla_e | sla_h | sla_l | sla_a | sra_b | sra_c | sra_d | sra_e | sra_h | sra_l | sra_a | swap_b | swap_c |
      swap_d | swap_e | swap_h | swap_l | swap_a | srl_b | srl_c | srl_d | srl_e | srl_h | srl_l | srl_a =>
    exact shiftReg_actsOnData _ _ _ s
  case rlc_atHL | rrc_atHL | rl_atHL | rr_atHL | sla_atHL | sra_atHL | swap_atHL | srl_atHL =>
    exact shiftAtHL_actsOnData _ _ s
  case bit_0_b | bit_0_c | bit_0_d | bit_0_e | bit_0_h | bit_0_l | bit_0_a | bit_1_b | bit_1_c | bit_1_d | bit_1_e |
      bit_1_h | bit_1_l | bit_1_a | bit_2_b | bit_2_c | bit_2_d | bit_2_e | bit_2_h | bit_2_l | bit_2_a | bit_3_b |
      bit_3_c | bit_3_d | bit_3_e | bit_3_h | bit_3_l | bit_3_a | bit_4_b | bit_4_c | bit_4_d | bit_4_e | bit_4_h |
      bit_4_l | bit_4_a | bit_5_b | bit_5_c | bit_5_d | bit_5_e | bit_5_h | bit_5_l | bit_5_a | bit_6_b | bit_6_c |
      bit_6_d | bit_6_e | bit_6_h | bit_6_l | bit_6_a | bit_7_b | bit_7_c | bit_7_d | bit_7_e | bit_7_h | bit_7_l |
      bit_7_a =>
    exact bitReg_actsOnData _ _ _ s
  case bit_0_atHL | bit_1_atHL | bit_2_atHL | bit_3_atHL | bit_4_atHL | bit_5_atHL | bit_6_atHL | bit_7_atHL =>
    exact bitAtHL_actsOnData _ _ s
  case res_0_b | res_0_c | res_0_d | res_0_e | res_0_h | res_0_l | res_0_a | res_1_b | res_1_c | res_1_d | res_1_e |
      res_1_h | res_1_l | res_1_a | res_2_b | res_2_c | res_2_d | res_2_e | res_2_h | res_2_l | res_2_a | res_3_b |
      res_3_c | res_3_d | res_3_e | res_3_h | res_3_l | res_3_a | res_4_b | res_4_c | res_4_d | res_4_e | res_4_h |
      res_4_l | res_4_a | res_5_b | res_5_c | res_5_d | res_5_e | res_5_h | res_5_l | res_5_a | res_6_b | res_6_c |
      res_6_d | res_6_e | res_6_h | res_6_l | res_6_a | res_7_b | res_7_c | res_7_d | res_7_e | res_7_h | res_7_l |
      res_7_a =>
    exact resReg_actsOnData _ _ _ s
  case res_0_atHL | res_1_atHL | res_2_atHL | res_3_atHL | res_4_atHL | res_5_atHL | res_6_atHL | res_7_atHL =>
    exact resAtHL_actsOnData _ _ s
  case set_0_b | set_0_c | set_0_d | set_0_e | set_0_h | set_0_l | set_0_a | set_1_b | set_1_c | set_1_d | set_1_e |
      set_1_h | set_1_l | set_1_a | set_2_b | set_2_c | set_2_d | set_2_e | set_2_h | set_2_l | set_2_a | set_3_b |
      set_3_c | set_3_d | set_3_e | set_3_h | set_3_l | set_3_a | set_4_b | set_4_c | set_4_d | set_4_e | set_4_h |
      set_4_l | set_4_a | set_5_b | set_5_c | set_5_d | set_5_e | set_5_h | set_5_l | set_5_a | set_6_b | set_6_c |
      set_6_d | set_6_e | set_6_h | set_6_l | set_6_a | set_7_b | set_7_c | set_7_d | set_7_e | set_7_h | set_7_l |
      set_7_a =>
    exact setReg_actsOnData _ _ _ s
  case set_0_atHL | set_1_atHL | set_2_atHL | set_3_atHL | set_4_atHL | set_5_atHL | set_6_atHL | set_7_atHL =>
    exact setAtHL_actsOnData _ _ s
  case call_a16 a => exact .run fun u => u.call_dataOnly a
  case ld_atA16_sp a => exact .run fun u => u.writeWord_dataOnly a _
  case inc_atHL | dec_atHL => exact .run fun u => u.putAtHL_dataOnly _
  case ld_atBC_a | ld_atDE_a | ld_atA16_a | ldh_atA8_a | ld_atC_a | ld_atHL_n8 =>
    exact .run fun u => u.write8_dataOnly _ _
  case ld_a_atBC | ld_a_atDE | ld_a_atA16 | ldh_a_atA8 | ld_a_atC => exact .run fun u => u.loadA_dataOnly _
  case daa | cpl => exact .run fun u => u.putReg_dataOnly .a _
  case scf | ccf => exact .run fun u => u.flags_dataOnly _
  case jp_a16 | jp_hl | jr_e8 => exact .run fun u => u.jump_dataOnly _
  case ret => exact .run fun u => u.popPC_dataOnly
  case ld_atHLI_a | ld_atHLD_a => exact .run fun u => (u.write8_dataOnly u.hl u.a).trans (State.setHL_dataOnly _ _)
  case ld_a_atHLI | ld_a_atHLD => exact .run fun u => (u.loadA_dataOnly u.hl).trans (State.setHL_dataOnly _ _)
  case nop | add_sp_e8 | ld_sp_hl | ld_hl_spE8 => exact .next ⟨Quiet.refl s, rfl, id⟩

/-! ## EI, DI, RETI and HALT -/

/-- The state `i` makes of `s` by its effect on the control bits alone, the halt bug consumed by the fetch (R150). -/
inductive ControlEffect (s : State) : Instr → State → Prop where
  | eiDelayed (h : s.cfg.eiDelay = true) : ControlEffect s .ei { s with haltBug := false, eiPending := true }
  | ei : ControlEffect s .ei { s with haltBug := false, ime := true }
  | di : ControlEffect s .di { s with haltBug := false, ime := false, eiPending := false }
  | reti : ControlEffect s .reti { s with haltBug := false, ime := true, eiPending := false }
  | haltBug (h : s.ime = false) : ControlEffect s .halt { s with haltBug := true }
  | halt : ControlEffect s .halt { s with haltBug := false, halted := true }
  | other {i : Instr} (hi : i ∉ [.ei, .di, .reti, .halt]) : ControlEffect s i { s with haltBug := false }

/-- EI sets `eiPending` where EI is delayed, or it sets IME (R504). -/
theorem State.enableInterrupts_cases (s : State) :
    (s.cfg.eiDelay = true ∧ s.enableInterrupts = { s with eiPending := true }) ∨
    s.enableInterrupts = { s with ime := true } := by
  unfold State.enableInterrupts
  split
  next h => exact .inl ⟨h, rfl⟩
  next => exact .inr rfl

/-- HALT arms the halt bug with IME 0, or it halts (R501). -/
theorem State.halt_cases (s : State) :
    (s.ime = false ∧ s.halt = { s with haltBug := true }) ∨ s.halt = { s with halted := true } := by
  unfold State.halt
  split
  next h =>
    simp only [Bool.and_eq_true, Bool.not_eq_true'] at h
    obtain ⟨⟨hime, -⟩, -⟩ := h
    exact .inl ⟨hime, rfl⟩
  next => exact .inr rfl

theorem exec_ei_controlEffect {s t : State} (h : exec .ei s = .next t) : ∃ u, ControlEffect s .ei u ∧ DataOnly u t := by
  obtain rfl := (s.run_next_iff t 1 0xFB 1 _).mp h
  rcases (s.past 1).enableInterrupts_cases with ⟨hd, e⟩ | e
  · exact ⟨_, .eiDelayed hd, by rw [e]; exact ⟨Quiet.refl _, rfl, id⟩⟩
  · exact ⟨_, .ei, by rw [e]; exact ⟨Quiet.refl _, rfl, id⟩⟩

theorem exec_halt_controlEffect {s t : State} (h : exec .halt s = .next t) :
    ∃ u, ControlEffect s .halt u ∧ DataOnly u t := by
  obtain rfl := (s.run_next_iff t 1 0x76 1 _).mp h
  rcases (s.past 1).halt_cases with ⟨hime, e⟩ | e
  · exact ⟨_, .haltBug hime, by rw [e]; exact ⟨Quiet.refl _, rfl, id⟩⟩
  · exact ⟨_, .halt, by rw [e]; exact ⟨Quiet.refl _, rfl, id⟩⟩

/-- What an instruction that completes does: its effect on the control bits, and the rest on data alone. -/
theorem exec_controlEffect {i : Instr} {s t : State} (h : exec i s = .next t) :
    ∃ u, ControlEffect s i u ∧ DataOnly u t := by
  by_cases hi : i ∈ [.ei, .di, .reti, .halt]
  · simp only [List.mem_cons, List.not_mem_nil, or_false] at hi
    rcases hi with rfl | rfl | rfl | rfl
    · exact exec_ei_controlEffect h
    · obtain rfl := (s.run_next_iff t 1 0xF3 1 _).mp h
      exact ⟨_, .di, Quiet.refl _, rfl, id⟩
    · obtain rfl := (s.run_next_iff t 1 0xD9 4 _).mp h
      exact ⟨_, .reti, Quiet.refl _, rfl, id⟩
    · exact exec_halt_controlEffect h
  · exact ⟨_, .other hi, exec_actsOnData s hi t h⟩

end Sys2Proof.Machine

namespace Sys2Proof.Proofs

open Sys2Proof Sys2Proof.Machine

/-- Settles O14, by cases on the instruction's effect on the control bits. -/
theorem noInstructionTouchesTheBlockOrStrayControlBits :
    Obligations.NoInstructionTouchesTheBlockOrStrayControlBits := by
  unfold Obligations.NoInstructionTouchesTheBlockOrStrayControlBits
  intro i s t h
  obtain ⟨u, hu, ⟨⟨hime, hei, hhalted⟩, hblock⟩, hbug, -⟩ := exec_controlEffect h
  cases hu with
  | eiDelayed _ | ei | di | reti => exact ⟨hblock, fun hi => by simp at hi, fun _ => ⟨hhalted, hbug⟩⟩
  | haltBug _ | halt => exact ⟨hblock, fun _ => ⟨hime, hei⟩, fun hi => absurd rfl hi⟩
  | other _ => exact ⟨hblock, fun _ => ⟨hime, hei⟩, fun _ => ⟨hhalted, hbug⟩⟩

end Sys2Proof.Proofs
end

section
/-! PROOFS. The invariant of the block, kept by each part of a step (R601): a pending EI, the instruction, the timers, the wake
test and interrupt service. -/

namespace Sys2Proof.Machine

/-! ## The countdowns -/

theorem State.dividerUpdate_divCounter (s : State) (c : Nat) :
    (s.dividerUpdate c).divCounter = if s.divCounter - c ≤ 0 then (s.cfg.divPeriod : Int) else s.divCounter - c := by
  unfold State.dividerUpdate
  dsimp only
  split <;> rfl

@[simp] theorem State.dividerUpdate_timaCounter (s : State) (c : Nat) : (s.dividerUpdate c).timaCounter = s.timaCounter := by
  unfold State.dividerUpdate
  dsimp only
  split <;> rfl

@[simp] theorem State.tickTIMA_divCounter (s : State) : s.tickTIMA.divCounter = s.divCounter := by
  unfold State.tickTIMA
  split <;> rfl

@[simp] theorem State.tickTIMA_timaCounter (s : State) : s.tickTIMA.timaCounter = s.timaCounter := by
  unfold State.tickTIMA
  split <;> rfl

@[simp] theorem State.counterUpdate_divCounter (s : State) (c : Nat) : (s.counterUpdate c).divCounter = s.divCounter := by
  unfold State.counterUpdate
  dsimp only
  split
  · split
    · exact State.tickTIMA_divCounter _
    · rfl
  · rfl

/-- The countdown of TIMA stands still, is set to a period on expiry, or falls by the cycles and stays positive (R623). -/
theorem State.counterUpdate_timaCounter_cases (s : State) (c : Nat) :
    (s.counterUpdate c).timaCounter = s.timaCounter ∨
    (∃ sel, (s.counterUpdate c).timaCounter = (timaPeriod s.cfg sel : Int)) ∨
    (0 < s.timaCounter - c ∧ (s.counterUpdate c).timaCounter = s.timaCounter - c) := by
  unfold State.counterUpdate
  dsimp only
  split
  · split
    · exact .inr (.inl ⟨tacSel s.regTAC, State.tickTIMA_timaCounter _⟩)
    · exact .inr (.inr ⟨by omega, rfl⟩)
  · exact .inl rfl

theorem CountdownsInRange.dividerUpdate {s : State} (h : CountdownsInRange s) (hp : 0 < s.cfg.divPeriod) (c : Nat) :
    CountdownsInRange (s.dividerUpdate c) := by
  obtain ⟨hpos, hle, htima⟩ := h
  have hcfg : (s.dividerUpdate c).cfg = s.cfg := (congrArg State.cfg (s.dividerUpdate_only c).eq :)
  unfold CountdownsInRange
  rw [s.dividerUpdate_timaCounter, s.dividerUpdate_divCounter, hcfg]
  refine ⟨?_, ?_, htima⟩ <;> split <;> omega

theorem CountdownsInRange.counterUpdate {s : State} (h : CountdownsInRange s) (c : Nat) :
    CountdownsInRange (s.counterUpdate c) := by
  obtain ⟨hpos, hle, hlower, sel, hupper⟩ := h
  have hcfg : (s.counterUpdate c).cfg = s.cfg := (congrArg State.cfg (s.counterUpdate_only c).eq :)
  unfold CountdownsInRange
  rw [s.counterUpdate_divCounter, hcfg]
  refine ⟨hpos, hle, ?_⟩
  rcases s.counterUpdate_timaCounter_cases c with e | ⟨sel', e⟩ | ⟨hleft, e⟩ <;> rw [e]
  · exact ⟨hlower, sel, hupper⟩
  · exact ⟨fun hperiods => by exact_mod_cast hperiods sel', sel', le_refl _⟩
  · exact ⟨fun _ => hleft, sel, by omega⟩

/-! ## The invariant, part by part -/

theorem Config.wf_divPeriod_pos {c : Config} (h : c.wf = true) : 0 < c.divPeriod := by
  simp only [Config.wf, Bool.and_eq_true, decide_eq_true_eq] at h
  omega

theorem Inv.of_dataOnly {s t : State} (h : Inv s) (hd : DataOnly s t) : Inv t := by
  obtain ⟨hcfg, hmem, hcount, hctl⟩ := h
  obtain ⟨⟨⟨hime, hei, hhalted⟩, hdiv, htima, -, hc⟩, hbug, hwf⟩ := hd
  unfold Inv CountdownsInRange ControlBitsAgree
  rw [hc, hdiv, htima, hei, hhalted, hbug, hime]
  exact ⟨hcfg, hwf hmem, hcount, hctl⟩

theorem Inv.timerUpdate {s : State} (h : Inv s) (c : Nat) : Inv (s.timerUpdate c) := by
  obtain ⟨hcfg, hmem, hcount, hctl⟩ := h
  refine ⟨by rwa [s.timerUpdate_cfg], s.timerUpdate_wf c hmem,
    (hcount.dividerUpdate (Config.wf_divPeriod_pos hcfg) c).counterUpdate c, ?_⟩
  simpa [ControlBitsAgree] using hctl

theorem Inv.wake {s : State} (h : Inv s) : Inv s.wake := by
  rcases s.wake_cases with e | ⟨-, -, e⟩ <;> rw [e]
  · exact h
  · obtain ⟨hcfg, hmem, hcount, hdelay, -, hbug⟩ := h
    refine ⟨hcfg, hmem, hcount, hdelay, by simp, fun hb => ?_⟩
    obtain ⟨hime, hei, -⟩ := hbug hb
    exact ⟨hime, hei, rfl⟩

/-- An interrupt entry clears IME, `eiPending` and `halted` (R613). -/
theorem Inv.takeInterrupt {s : State} (h : Inv s) (i : Fin 5) : Inv (s.takeInterrupt i) := by
  obtain ⟨hcfg, hmem, hcount, -⟩ := h
  exact ⟨hcfg, s.takeInterrupt_wf i hmem, hcount, fun _ => rfl, fun _ => rfl, fun _ => ⟨rfl, rfl, rfl⟩⟩

theorem Inv.charge {s : State} (h : Inv s) (n : Nat) : Inv (s.charge n) :=
  h.of_dataOnly ⟨Quiet.refl s, rfl, id⟩

theorem Inv.serviceInterrupts {s : State} (h : Inv s) : Inv s.serviceInterrupts := by
  rcases s.serviceInterrupts_cases with ⟨-, e⟩ | ⟨i, -, ⟨-, e⟩ | ⟨-, e⟩⟩ <;> rw [e]
  · exact h
  · exact h.takeInterrupt i
  · exact ((h.takeInterrupt i).charge _).timerUpdate _

theorem Inv.endStep {s : State} (h : Inv s) (c : Nat) : Inv (s.endStep c) :=
  (h.timerUpdate c).wake.serviceInterrupts

/-- A pending EI takes effect only with the halt bug not armed. -/
theorem Inv.applyPendingEI {s : State} (h : Inv s) : Inv s.applyPendingEI := by
  rcases s.applyPendingEI_cases with ⟨-, e⟩ | ⟨hei, e⟩ <;> rw [e]
  · exact h
  · obtain ⟨hcfg, hmem, hcount, -, -, hbug⟩ := h
    refine ⟨hcfg, hmem, hcount, fun _ => rfl, fun _ => rfl, fun hb => ?_⟩
    obtain ⟨-, hno, -⟩ := hbug hb
    exact nomatch hei.symm.trans hno

/-- An instruction of a running core, with no EI pending when it begins, keeps the control bits in agreement. -/
theorem Inv.controlEffect {i : Instr} {s u : State} (h : Inv s) (hhalted : s.halted = false)
    (hei : s.eiPending = false) (hu : ControlEffect s i u) : Inv u := by
  obtain ⟨hcfg, hmem, hcount, -⟩ := h
  cases hu with
  | eiDelayed hd => exact ⟨hcfg, hmem, hcount, by simp [ControlBitsAgree, hd, hhalted]⟩
  | haltBug hime => exact ⟨hcfg, hmem, hcount, by simp [ControlBitsAgree, hime, hei, hhalted]⟩
  | ei | di | reti | halt | other _ => exact ⟨hcfg, hmem, hcount, by simp [ControlBitsAgree, hei]⟩

theorem Inv.exec {i : Instr} {s t : State} (h : Inv s) (hhalted : s.halted = false) (hei : s.eiPending = false)
    (ht : exec i s = .next t) : Inv t := by
  obtain ⟨u, hu, hd⟩ := exec_controlEffect ht
  exact (h.controlEffect hhalted hei hu).of_dataOnly hd

@[simp] theorem State.applyPendingEI_eiPending (s : State) : s.applyPendingEI.eiPending = false := by
  rcases s.applyPendingEI_cases with ⟨hei, e⟩ | ⟨-, e⟩ <;> rw [e]
  exact hei

@[simp] theorem State.applyPendingEI_halted (s : State) : s.applyPendingEI.halted = s.halted := by
  rcases s.applyPendingEI_cases with ⟨-, e⟩ | ⟨-, e⟩ <;> rw [e]

end Sys2Proof.Machine

namespace Sys2Proof.Proofs

open Sys2Proof Sys2Proof.Machine

/-- Settles O12: a halted core idles and a running one executes an instruction, and either keeps the invariant, as the end of
the step then does. -/
theorem stepKeepsTheInvariant : Obligations.StepKeepsTheInvariant := by
  unfold Obligations.StepKeepsTheInvariant
  intro s t h ht
  rw [step] at ht
  rcases blockStep_cases s with ⟨f, -, e⟩ | ⟨-, -, e⟩ | ⟨-, hhalted, ⟨u, hu, e⟩ | ⟨f, -, e⟩ | ⟨r, -, e⟩⟩ <;>
    rw [e] at ht
  · cases ht
  · cases ht
    exact (h.charge _).endStep _
  · cases ht
    exact (h.applyPendingEI.exec (s.applyPendingEI_halted.trans hhalted) s.applyPendingEI_eiPending hu).endStep _
  · cases ht
  · cases ht

end Sys2Proof.Proofs
end

section
/-! PROOFS. The decoder and the encoder (R150 to R167): what each instruction's bytes are and that the decoder reads it back
from them, that the bytes of what is decoded are those read, and the first bytes that are no instruction. -/

namespace Sys2Proof

/-! ## Instruction lengths (R151) -/

/-- A first byte gives one byte, or it is an opcode of a two-byte or of a three-byte format. -/
theorem lengthOf_cases (b0 : Byte) :
    lengthOf b0 = 1 ∨ (lengthOf b0 = 2 ∧ b0 ∈ twoByteOps) ∨ (lengthOf b0 = 3 ∧ b0 ∈ threeByteOps) := by
  unfold lengthOf
  split
  next h => exact .inr (.inr ⟨rfl, List.contains_iff_mem.mp h⟩)
  next =>
    split
    next h => exact .inr (.inl ⟨rfl, List.contains_iff_mem.mp h⟩)
    next => exact .inl rfl

theorem lengthOf_pos (b0 : Byte) : 0 < lengthOf b0 := by
  rcases lengthOf_cases b0 with h | ⟨h, -⟩ | ⟨h, -⟩ <;> omega

theorem lengthOf_le_three (b0 : Byte) : lengthOf b0 ≤ 3 := by
  rcases lengthOf_cases b0 with h | ⟨h, -⟩ | ⟨h, -⟩ <;> omega

/-! ## The bytes of each instruction -/

/-- The instruction is written as `b0` and the bytes `operands`, as many as `b0` says (R151), and the decoder reads it from
them whatever bytes `x` and `y` follow. -/
structure Encodes (i : Instr) (b0 : Byte) (operands : List Byte) : Prop where
  bytes : encode i = b0 :: operands
  length : lengthOf b0 = operands.length + 1
  reads : ∀ x y : Byte, decode3 b0 (operands.getD 0 x) (operands.getD 1 y) = i

/-- Row by row of the opcode maps (R164, R165): a word operand is read as the join of its two bytes, and every other row is
read off its map directly. -/
theorem exists_encodes (i : Instr) : ∃ b0 operands, Encodes i b0 operands := by
  cases i with
  | ld_bc_n16 v | ld_de_n16 v | ld_hl_n16 v | ld_sp_n16 v | ld_atA16_sp v | jp_a16 v | jp_nz_a16 v | jp_z_a16 v
  | jp_nc_a16 v | jp_c_a16 v | call_a16 v | call_nz_a16 v | call_z_a16 v | call_nc_a16 v | call_c_a16 v
  | ld_atA16_a v | ld_a_atA16 v => exact ⟨_, _, rfl, rfl, fun _ _ => congrArg _ (join_hi_lo v)⟩
  | _ =>
    refine ⟨_, _, rfl, rfl, fun x y => ?_⟩
    simp only [List.getD_nil, List.getD_cons_zero]
    rfl

/-! ## Decoding an encoding -/

/-- An entry of a list with another after it is the first list's, with the second's where the first is too short. -/
theorem getD_append_eq (l l' : List Byte) (k : Nat) (d : Byte) :
    (l ++ l').getD k d = l.getD k (l'.getD (k - l.length) d) := by
  rcases Nat.lt_or_ge k l.length with h | h
  · rw [List.getD_append _ _ _ _ h, List.getD_eq_getElem _ _ h, List.getD_eq_getElem _ _ h]
  · rw [List.getD_append_right _ _ _ _ h, List.getD_eq_default _ _ h]

/-- The decoder on a list that is long enough for its first byte. -/
theorem decode_cons {b0 : Byte} {rest : List Byte} (h : lengthOf b0 ≤ rest.length + 1) :
    decode (b0 :: rest) = .ok (decode3 b0 (rest.getD 0 0) (rest.getD 1 0), rest.drop (lengthOf b0 - 1)) :=
  if_neg (Nat.not_lt.mpr h)

/-- The decoder reads an instruction from its bytes and leaves what follows them. -/
theorem decode_encode_append (i : Instr) (rest : List Byte) : decode (encode i ++ rest) = .ok (i, rest) := by
  obtain ⟨b0, operands, hbytes, hlength, hreads⟩ := exists_encodes i
  rw [hbytes, List.cons_append, decode_cons (by rw [hlength, List.length_append]; omega), getD_append_eq, getD_append_eq,
    hreads, hlength, Nat.add_sub_cancel, List.drop_left]

theorem decode_encode (i : Instr) : decode (encode i) = .ok (i, []) := by
  rw [← decode_encode_append i [], List.append_nil]

/-- Three bytes are enough for any first byte. -/
theorem decode3_of_decode {b0 b1 b2 : Byte} {i : Instr} {rest : List Byte} (h : decode [b0, b1, b2] = .ok (i, rest)) :
    decode3 b0 b1 b2 = i := by
  rw [decode_cons (lengthOf_le_three b0)] at h
  cases h
  rfl

/-! ## Encoding what is decoded -/

theorem encode_decode3_zeros : ∀ b0 : Byte, lengthOf b0 = 1 → encode (decode3 b0 0 0) = [b0] := by decide

/-- A one-byte instruction is read whatever the two other bytes are, so they may as well be 0. -/
theorem encode_decode3_of_oneByte {b0 : Byte} (h : lengthOf b0 = 1) (b1 b2 : Byte) : encode (decode3 b0 b1 b2) = [b0] := by
  have hzeros := encode_decode3_zeros b0 h
  obtain ⟨op, operands, hbytes, -, hreads⟩ := exists_encodes (decode3 b0 0 0)
  obtain ⟨rfl, rfl⟩ := List.cons.inj (hbytes.symm.trans hzeros)
  rw [show decode3 op b1 b2 = decode3 op 0 0 from hreads b1 b2, hzeros]

theorem encode_decode3_cb : ∀ cb : Byte, encode (decode3 0xCB cb 0) = [0xCB, cb] := by decide

/-- The rows of format `I8` write their operand as it was read; after 0xCB the second byte selects the row. -/
theorem encode_decode3_of_twoByte {b0 : Byte} (h : b0 ∈ twoByteOps) (hstop : b0 ≠ 0x10) (b1 b2 : Byte) :
    encode (decode3 b0 b1 b2) = [b0, b1] := by
  by_cases hcb : b0 = 0xCB
  · rw [hcb]
    exact encode_decode3_cb b1
  · have hI8 : b0 ∈ (twoByteOps.erase 0x10).erase 0xCB := by
      rwa [List.mem_erase_of_ne hcb, List.mem_erase_of_ne hstop]
    simp only [twoByteOps] at hI8
    fin_cases hI8 <;> rfl

/-- The rows of format `I16` write the two halves of the word that was read. -/
theorem encode_decode3_of_threeByte {b0 : Byte} (h : b0 ∈ threeByteOps) (b1 b2 : Byte) :
    encode (decode3 b0 b1 b2) = [b0, b1, b2] := by
  have hword (op : Byte) : [op, lo (join b2 b1), hi (join b2 b1)] = [op, b1, b2] := by rw [lo_join, hi_join]
  simp only [threeByteOps] at h
  fin_cases h <;> exact hword _

/-- The bytes of what is decoded are those read, as many as the first byte says, but for the second byte of STOP. -/
theorem encode_decode3 {b0 : Byte} (hstop : b0 ≠ 0x10) (b1 b2 : Byte) :
    encode (decode3 b0 b1 b2) = [b0, b1, b2].take (lengthOf b0) := by
  rcases lengthOf_cases b0 with h | ⟨h, hmem⟩ | ⟨h, hmem⟩ <;> rw [h]
  · exact encode_decode3_of_oneByte h b1 b2
  · exact encode_decode3_of_twoByte hmem hstop b1 b2
  · exact encode_decode3_of_threeByte hmem b1 b2

/-! ## Unassigned opcodes (R166) -/

/-- The terms that are no instructions are the rows of the unassigned opcodes. -/
theorem mem_illegalRows_of_not_wellFormed {i : Instr} (h : i.wellFormed = false) : i ∈ illegalRows.map Prod.snd := by
  unfold Instr.wellFormed at h
  split at h
  case h_12 => cases h
  all_goals decide

theorem encode_illegalRow : ∀ row ∈ illegalRows, encode row.2 = [row.1] := by decide

/-- What decodes to no instruction begins with an unassigned opcode: the row's one byte is the first byte read. -/
theorem mem_illegalRows_of_decode3_not_wellFormed {b0 b1 b2 : Byte} (h : (decode3 b0 b1 b2).wellFormed = false) :
    b0 ∈ illegalRows.map Prod.fst := by
  obtain ⟨row, hrow, hi⟩ := List.mem_map.mp (mem_illegalRows_of_not_wellFormed h)
  have hstop : b0 ≠ 0x10 := by
    rintro rfl
    exact nomatch (h : Instr.stop.wellFormed = false)
  obtain ⟨n, hn⟩ := Nat.exists_eq_succ_of_ne_zero (lengthOf_pos b0).ne'
  have hbytes : b0 :: [b1, b2].take n = [row.1] := by
    rw [← encode_illegalRow row hrow, hi, encode_decode3 hstop, hn, List.take_succ_cons]
  rw [(List.cons.inj hbytes).left]
  exact List.mem_map_of_mem hrow

theorem decode3_not_wellFormed_of_mem {b0 : Byte} (h : b0 ∈ illegalRows.map Prod.fst) (b1 b2 : Byte) :
    (decode3 b0 b1 b2).wellFormed = false := by
  obtain ⟨row, hrow, rfl⟩ := List.mem_map.mp h
  fin_cases hrow <;> rfl

end Sys2Proof

namespace Sys2Proof.Proofs

open Sys2Proof Sys2Proof.Machine

/-- Settles O2: the first byte of an instruction's bytes gives their number, and the decoder reads the instruction from them
whatever follows. -/
theorem decodeOfEncodeIsTheInstruction : Obligations.DecodeOfEncodeIsTheInstruction := decode_encode_append

/-- Settles O3, by the format that the first byte gives. -/
theorem encodeOfDecodeIsTheBytes : Obligations.EncodeOfDecodeIsTheBytes :=
  fun _ b1 b2 hstop => encode_decode3 hstop b1 b2

/-- Settles O5: a row that is no instruction is written as its one byte, which is then the first byte read. -/
theorem onlyElevenFirstBytesAreIllegal : Obligations.OnlyElevenFirstBytesAreIllegal :=
  fun _ b1 b2 => ⟨mem_illegalRows_of_decode3_not_wellFormed, fun h => decode3_not_wellFormed_of_mem h b1 b2⟩

/-- Settles O1: each word is the encoding of its instruction. -/
theorem wordsOfEachFamilyDecode : Obligations.WordsOfEachFamilyDecode :=
  ⟨decode_encode .ld_b_c, decode_encode (.ld_a_n8 0x5C), decode_encode (.ld_hl_n16 0xC000), decode_encode .sbc_a_atHL,
    decode_encode .add_hl_sp, decode_encode .rlca, decode_encode .bit_7_h, decode_encode (.jr_nz_e8 0xFB),
    decode_encode .rst_38, decode_encode .halt, decode_encode .illegal_d3⟩

/-- Settles O4: the first byte of the encoding gives its length, which is one, two or three. -/
theorem firstByteGivesTheLength : Obligations.FirstByteGivesTheLength := by
  unfold Obligations.FirstByteGivesTheLength
  intro i
  obtain ⟨b0, operands, hbytes, hlength, -⟩ := exists_encodes i
  have hlen : i.length = lengthOf b0 := by rw [Instr.length, hbytes, List.length_cons, hlength]
  exact ⟨b0, operands, hbytes, hlen, hlen ▸ lengthOf_pos b0, hlen ▸ lengthOf_le_three b0⟩

end Sys2Proof.Proofs
end

section
/-! PROOFS. The step of a running core (R150, R601): what it fetches, the order of what follows the instruction, and that no
instruction is left without a meaning (R167). -/

namespace Sys2Proof.Machine

/-! ## Fetch (R150) -/

theorem State.fetchInstr_of_no_bug {s : State} (h : s.haltBug = false) :
    s.fetchInstr = decode3 (s.read8 s.pc) (s.read8 (s.pc + 1)) (s.read8 (s.pc + 2)) := by
  simp [State.fetchInstr, State.fetchAddr, h]

/-- With the halt bug armed the byte after the opcode is the opcode byte again. -/
theorem State.fetchInstr_of_haltBug {s : State} (h : s.haltBug = true) :
    s.fetchInstr = decode3 (s.read8 s.pc) (s.read8 s.pc) (s.read8 (s.pc + 1)) := by
  simp [State.fetchInstr, State.fetchAddr, h]

/-- The instruction fetched is the one at the head of the bytes at the pc. -/
theorem State.fetchInstr_of_decode {s : State} {i : Instr} {rest : List Byte}
    (h : decode (if s.haltBug then [s.read8 s.pc, s.read8 s.pc, s.read8 (s.pc + 1)]
      else [s.read8 s.pc, s.read8 (s.pc + 1), s.read8 (s.pc + 2)]) = .ok (i, rest)) : s.fetchInstr = i := by
  cases hb : s.haltBug <;> rw [hb] at h
  · exact (State.fetchInstr_of_no_bug hb).trans (decode3_of_decode h)
  · exact (State.fetchInstr_of_haltBug hb).trans (decode3_of_decode h)

/-- A pending EI has no part in the fetch. -/
@[simp] theorem State.applyPendingEI_fetchInstr (s : State) : s.applyPendingEI.fetchInstr = s.fetchInstr := by
  rcases s.applyPendingEI_cases with ⟨-, e⟩ | ⟨-, e⟩ <;> rw [e]
  rfl

@[simp] theorem State.applyPendingEI_cycleCounter (s : State) : s.applyPendingEI.cycleCounter = s.cycleCounter := by
  rcases s.applyPendingEI_cases with ⟨-, e⟩ | ⟨-, e⟩ <;> rw [e]

/-! ## The halt wake test (R618) -/

theorem State.pending_iff (s : State) : s.pending = true ↔ s.read8 0xFFFF &&& s.read8 0xFF0F &&& 0x1F ≠ 0 :=
  bne_iff_ne

theorem State.wake_eq (s : State) :
    s.wake = if s.halted = true ∧ s.read8 0xFFFF &&& s.read8 0xFF0F &&& 0x1F ≠ 0 then { s with halted := false } else s := by
  simp only [State.wake, Bool.and_eq_true, s.pending_iff]

/-! ## Every instruction has a meaning (R167) -/

/-- A next state or a fault is answered, no refusal. -/
def Answers (r : Result) : Prop := (∃ t, r = .next t) ∨ ∃ f, r = .fault f

theorem Answers.next (t : State) : Answers (.next t) := .inl ⟨t, rfl⟩

theorem Answers.fault (f : Fault) : Answers (.fault f) := .inr ⟨f, rfl⟩

/-- A conditional transfer answers a next state, taken or not. -/
theorem Answers.ite {p : Prop} [Decidable p] (t u : State) : Answers (if p then .next t else .next u) := by
  split
  · exact .next t
  · exact .next u

theorem exec_answers (i : Instr) (s : State) : Answers (exec i s) := by
  cases i with
  | stop | illegal_d3 | illegal_db | illegal_dd | illegal_e3 | illegal_e4 | illegal_eb | illegal_ec | illegal_ed
  | illegal_f4 | illegal_fc | illegal_fd => exact .fault _
  | jp_nz_a16 | jp_z_a16 | jp_nc_a16 | jp_c_a16 | jr_nz_e8 | jr_z_e8 | jr_nc_e8 | jr_c_e8 | call_nz_a16 | call_z_a16
  | call_nc_a16 | call_c_a16 | ret_nz | ret_z | ret_nc | ret_c => exact .ite _ _
  | _ => exact .next _

theorem step_answers (s : State) : Answers (step s) := by
  rw [step]
  rcases blockStep_cases s with ⟨f, -, e⟩ | ⟨-, -, e⟩ | ⟨-, -, ⟨t, -, e⟩ | ⟨f, -, e⟩ | ⟨r, he, -⟩⟩
  · rw [e]; exact .fault f
  · rw [e]; exact .next _
  · rw [e]; exact .next _
  · rw [e]; exact .fault f
  · have h := exec_answers s.applyPendingEI.fetchInstr s.applyPendingEI
    rw [he] at h
    simp [Answers] at h

end Sys2Proof.Machine

namespace Sys2Proof.Proofs

open Sys2Proof Sys2Proof.Machine

/-- Settles O7: no arm of `exec` refuses, and a step answers what `exec` does. -/
theorem noStepIsRefused : Obligations.NoStepIsRefused := step_answers

/-- Settles O6: the bytes at the pc are those the step fetches, and the end of a step is the timers, the wake test and
interrupt service in that order. -/
theorem stepRunsTheInstructionAtThePc : Obligations.StepRunsTheInstructionAtThePc := by
  unfold Obligations.StepRunsTheInstructionAtThePc
  intro s i rest hfault hhalted hdecode s0
  have hfetch : s.applyPendingEI.fetchInstr = i := s.applyPendingEI_fetchInstr.trans (State.fetchInstr_of_decode hdecode)
  have hs0 : s0 = s.applyPendingEI := rfl
  rw [step, hs0]
  rcases blockStep_cases s with ⟨f, hf, -⟩ | ⟨-, hh, -⟩ | ⟨-, -, ⟨t, he, e⟩ | ⟨f, he, e⟩ | ⟨r, he, e⟩⟩
  · exact nomatch hfault.symm.trans hf
  · exact nomatch hhalted.symm.trans hh
  · rw [e, ← hfetch, he, State.endStep, State.wake_eq, State.applyPendingEI_cycleCounter]
  · rw [e, ← hfetch, he]
  · rw [e, ← hfetch, he]

end Sys2Proof.Proofs
end

section
/-! PROOFS. 8-bit loads and stores (R200 to R219): each makes one write to a register or to a byte of memory, some step HL
after it, and all retire. -/

namespace Sys2Proof

/-- A high-page address is `0xFF00 | v` (R162). -/
theorem highPage_eq_or (v : Byte) : highPage v = 0xFF00 ||| v.zeroExtend 16 :=
  BitVec.append_def 0xFF v

namespace Machine

/-! ## Register frames -/

theorem SameRegsBut.trans {s t u : State} {rs rs' : List Reg8} (h : SameRegsBut s t rs) (h' : SameRegsBut t u rs') :
    SameRegsBut s u (rs ++ rs') := by
  intro r hr
  obtain ⟨hrs, hrs'⟩ := not_or.mp (List.mem_append.not.mp hr)
  rw [h' r hrs', h r hrs]

theorem State.write8_sameRegs (s : State) (a : Word) (v : Byte) : SameRegs s (s.write8 a v) :=
  fun r _ => s.write8_reg8 a v r

theorem State.setHL_sameRegsBut (s : State) (v : Word) : SameRegsBut s (s.setHL v) [.h, .l] :=
  s.setReg16_sameRegsBut .hl v

/-! ## Instructions that retire -/

/-- An effect on data alone that leaves the pc and the count of cycles as they are. -/
structure StraightLine (s t : State) : Prop where
  dataOnly : DataOnly s t
  pc : t.pc = s.pc
  cycleCounter : t.cycleCounter = s.cycleCounter

theorem StraightLine.trans {s t u : State} (h : StraightLine s t) (h' : StraightLine t u) : StraightLine s u :=
  ⟨h.dataOnly.trans h'.dataOnly, h'.pc.trans h.pc, h'.cycleCounter.trans h.cycleCounter⟩

section
variable (s : State)

theorem State.setReg8_straightLine (r : Reg8) (v : Byte) : StraightLine s (s.setReg8 r v) :=
  ⟨s.setReg8_dataOnly r v, s.setReg8_pc r v, s.setReg8_cycleCounter r v⟩

theorem State.write8_straightLine (a : Word) (v : Byte) : StraightLine s (s.write8 a v) :=
  ⟨s.write8_dataOnly a v, s.write8_pc a v, s.write8_cycleCounter a v⟩

theorem State.setHL_straightLine (v : Word) : StraightLine s (s.setHL v) :=
  ⟨s.setHL_dataOnly v, s.setHL_pc v, s.setHL_cycleCounter v⟩

end

/-- `i` completes from `s` with its cost counted on `u`, which its effect makes of the state past its bytes. -/
def CompletesOn (i : Instr) (s u : State) (cycles : Nat) : Prop :=
  exec i s = .next (u.charge (costOf s.cfg i.opcode cycles))

section
variable {i : Instr} {s u : State}

theorem StraightLine.quiet (h : StraightLine (s.past i.length) u) (n : Nat) : Quiet s (u.charge n) :=
  (h.dataOnly.charge n).quiet

/-- The fetch has moved the pc and consumed the halt bug, and a straight-line effect keeps both. -/
theorem StraightLine.retires (h : StraightLine (s.past i.length) u) (cycles : Nat) :
    Retires i s (u.charge (costOf s.cfg i.opcode cycles)) cycles :=
  ⟨h.pc, h.dataOnly.haltBug, congrArg (· + costOf s.cfg i.opcode cycles) h.cycleCounter⟩

/-- What an effect leaves alone, the instruction leaves alone: the fetch and the count write no 8-bit register. -/
theorem SameRegsBut.of_past_charge {len : Nat} {rs : List Reg8} (h : SameRegsBut (s.past len) u rs) (n : Nat) :
    SameRegsBut s (u.charge n) rs := by
  intro r hr
  rw [State.charge_reg8, h r hr, State.past_reg8]

end

/-! ## Loads and stores -/

section
variable {i : Instr} {s : State} {cycles : Nat}

/-- An instruction whose one write is of `v` to a register retires and leaves everything else alone. -/
theorem CompletesOn.load {r : Reg8} {v : Byte} (h : CompletesOn i s ((s.past i.length).setReg8 r v) cycles) :
    ∃ t, exec i s = .next t ∧ t.reg8 r = v ∧ SameRegsBut s t [r] ∧ t.flags = s.flags ∧ t.sp = s.sp ∧ SameMem s t ∧
      Quiet s t ∧ Retires i s t cycles := by
  have hstraight := (s.past i.length).setReg8_straightLine r v
  refine ⟨_, h, ?loaded, (State.setReg8_sameRegsBut _ r v).of_past_charge _, State.setReg8_flags _ r v,
    State.setReg8_sp _ r v, SameMem.of_mem (State.setReg8_mem _ r v) (State.setReg8_cfg _ r v), hstraight.quiet _,
    hstraight.retires cycles⟩
  case loaded => rw [State.charge_reg8, State.setReg8_reg8_same]

/-- An instruction whose one write is of `v` to the byte at `a` retires and leaves everything else alone. -/
theorem CompletesOn.store {a : Word} {v : Byte} (h : CompletesOn i s ((s.past i.length).write8 a v) cycles) :
    ∃ t, exec i s = .next t ∧ Stores s t [(a, v)] ∧ Holds s t a v ∧ SameRegs s t ∧ t.flags = s.flags ∧ t.sp = s.sp ∧
      Quiet s t ∧ Retires i s t cycles := by
  have hstraight := (s.past i.length).write8_straightLine a v
  exact ⟨_, h, Stores.of_mem rfl rfl, fun hb => State.write8_read8_same (s := s.past i.length) hb a v,
    (State.write8_sameRegs _ a v).of_past_charge _, rfl, rfl, hstraight.quiet _, hstraight.retires cycles⟩

/-- As `CompletesOn.load` for A, with `w` written to HL after it. -/
theorem CompletesOn.loadA_setHL {a w : Word} (h : CompletesOn i s (((s.past i.length).loadA a).setHL w) cycles) :
    ∃ t, exec i s = .next t ∧ t.a = s.read8 a ∧ t.hl = w ∧ SameMem s t ∧ SameRegsBut s t [.a, .h, .l] ∧
      t.flags = s.flags ∧ t.sp = s.sp ∧ Quiet s t ∧ Retires i s t cycles := by
  have hstraight : StraightLine (s.past i.length) (((s.past i.length).loadA a).setHL w) :=
    (State.setReg8_straightLine _ .a _).trans (State.setHL_straightLine _ w)
  have hregs : SameRegsBut (s.past i.length) (((s.past i.length).loadA a).setHL w) [.a, .h, .l] :=
    (State.setReg8_sameRegsBut _ .a _).trans (State.setHL_sameRegsBut _ w)
  exact ⟨_, h, rfl, join_hi_lo w, SameMem.of_mem rfl rfl, hregs.of_past_charge _, rfl, rfl, hstraight.quiet _,
    hstraight.retires cycles⟩

/-- As `CompletesOn.store`, with `w` written to HL after it. -/
theorem CompletesOn.store_setHL {a w : Word} {v : Byte}
    (h : CompletesOn i s (((s.past i.length).write8 a v).setHL w) cycles) :
    ∃ t, exec i s = .next t ∧ Stores s t [(a, v)] ∧ Holds s t a v ∧ t.hl = w ∧ SameRegsBut s t [.h, .l] ∧
      t.flags = s.flags ∧ t.sp = s.sp ∧ Quiet s t ∧ Retires i s t cycles := by
  have hstraight := (State.write8_straightLine (s.past i.length) a v).trans (State.setHL_straightLine _ w)
  have hregs := (State.write8_sameRegs (s.past i.length) a v).trans (State.setHL_sameRegsBut _ w)
  exact ⟨_, h, Stores.of_mem rfl rfl, fun hb => State.write8_read8_same (s := s.past i.length) hb a v,
    join_hi_lo w, hregs.of_past_charge _, rfl, rfl, hstraight.quiet _, hstraight.retires cycles⟩

end

/-! ## The families `LD r, ...` and `LD (HL), r` -/

theorem encode_ld_reg (dst r : Reg8) : encode (Instr.ld dst (.reg r)) = [opXYZ 0b01 dst.index r.index] := by
  cases dst <;> cases r <;> rfl

theorem encode_ld_atHL (dst : Reg8) : encode (Instr.ld dst .atHL) = [opXYZ 0b01 dst.index 0b110] := by
  cases dst <;> rfl

theorem encode_ld_imm (dst : Reg8) (n : Byte) : encode (Instr.ld dst (.imm n)) = [opXYZ 0b00 dst.index 0b110, n] := by
  cases dst <;> rfl

theorem encode_store (r : Reg8) : encode (Instr.store r) = [opXYZ 0b01 0b110 r.index] := by
  cases r <;> rfl

/-- A load writes the value its source has before the instruction, and costs its source's cycles (R201 to R203). -/
theorem exec_ld (dst : Reg8) (src : Src8) (s : State) :
    CompletesOn (Instr.ld dst src) s ((s.past (Instr.ld dst src).length).setReg8 dst (src.value s)) src.cycles := by
  cases src with
  | reg r => cases dst <;> cases r <;> rfl
  | atHL => cases dst <;> rfl
  | imm n => cases dst <;> rfl

/-- A store writes the register to the address HL (R204). -/
theorem exec_store (r : Reg8) (s : State) :
    CompletesOn (Instr.store r) s ((s.past (Instr.store r).length).write8 s.hl (s.reg8 r)) 2 := by
  cases r <;> rfl

end Machine

end Sys2Proof

namespace Sys2Proof.Proofs

open Sys2Proof Sys2Proof.Machine

/-- Settles O31: the one write is of the source's value to the destination; encoding, value and cost by the source's form. -/
theorem loadRegister8 : Obligations.LoadRegister8 := by
  unfold Obligations.LoadRegister8
  intro dst src s
  obtain ⟨t, ht, hloaded, hregs, hflags, hsp, hmem, hquiet, hretires⟩ := (exec_ld dst src s).load
  refine ⟨?encoding, t, ht, ?loaded, hregs, hflags, hsp, hmem, hquiet⟩
  case encoding =>
    cases src with
    | reg r => exact encode_ld_reg dst r
    | atHL => exact encode_ld_atHL dst
    | imm n => exact encode_ld_imm dst n
  case loaded => cases src <;> exact ⟨hloaded, hretires⟩

/-- Settles O32: the one write is to the address HL. -/
theorem storeAtHL : Obligations.StoreAtHL := by
  unfold Obligations.StoreAtHL
  exact fun s => ⟨fun r => ⟨encode_store r, (exec_store r s).store⟩, fun n => ⟨rfl, CompletesOn.store rfl⟩⟩

/-- Settles O33: each form loads A from its address, which the high-page forms build by joining 0xFF and the low byte. -/
theorem loadAFromMemory : Obligations.LoadAFromMemory := by
  unfold Obligations.LoadAFromMemory
  intro s k n
  rw [← highPage_eq_or, ← highPage_eq_or]
  simp only [List.forall_mem_cons]
  exact ⟨⟨rfl, CompletesOn.load (r := .a) rfl⟩, ⟨rfl, CompletesOn.load (r := .a) rfl⟩,
    ⟨rfl, CompletesOn.load (r := .a) rfl⟩, ⟨rfl, CompletesOn.load (r := .a) rfl⟩,
    ⟨rfl, CompletesOn.load (r := .a) rfl⟩, List.forall_mem_nil _⟩

/-- Settles O34: each form stores A at its address, which the high-page forms build by joining 0xFF and the low byte. -/
theorem storeAToMemory : Obligations.StoreAToMemory := by
  unfold Obligations.StoreAToMemory
  intro s k n
  rw [← highPage_eq_or, ← highPage_eq_or]
  simp only [List.forall_mem_cons]
  exact ⟨⟨rfl, CompletesOn.store rfl⟩, ⟨rfl, CompletesOn.store rfl⟩, ⟨rfl, CompletesOn.store rfl⟩,
    ⟨rfl, CompletesOn.store rfl⟩, ⟨rfl, CompletesOn.store rfl⟩, List.forall_mem_nil _⟩

/-- Settles O35: the access is at HL as it was, and the new HL is a step of the old one, the decrement being the addition
of -1. -/
theorem loadStoreAWithHLStep : Obligations.LoadStoreAWithHLStep := by
  unfold Obligations.LoadStoreAWithHLStep
  refine ⟨rfl, rfl, rfl, rfl, fun s => ?_⟩
  simp only [List.forall_mem_cons, ← BitVec.sub_eq_add_neg]
  exact ⟨⟨CompletesOn.store_setHL rfl, CompletesOn.store_setHL rfl, List.forall_mem_nil _⟩,
    ⟨CompletesOn.loadA_setHL rfl, CompletesOn.loadA_setHL rfl, List.forall_mem_nil _⟩⟩

end Sys2Proof.Proofs
end

section
/-! PROOFS. 16-bit loads, push and pop (R250 to R257), and ADD SP,e8 (R354): each has a straight-line effect, and so retires. -/

namespace Sys2Proof.Machine

/-! ## SP plus a displacement -/

/-- Adding the sign extension of a displacement displaces by it, modulo 65536 (R14, R161). -/
theorem isDisplaced_add_sext16 (p : Word) (e : Byte) : IsDisplaced (p + sext16 e) p e := by
  have hsext : (sext16 e).toInt = e.toInt := BitVec.toInt_signExtend_of_le (by decide)
  rw [BitVec.toInt_eq_toNat_cond] at hsext
  rw [IsDisplaced, BitVec.toNat_add]
  split at hsext <;> omega

theorem addSPFlags_h_iff (sp : Word) (e : Byte) :
    (addSPFlags sp e).h = true ↔ 0x0F < sp.toNat % 16 + e.toNat % 16 :=
  decide_eq_true_iff

theorem addSPFlags_c_iff (sp : Word) (e : Byte) : (addSPFlags sp e).c = true ↔ 0xFF < sp.toNat % 256 + e.toNat :=
  decide_eq_true_iff

/-! ## Words stored and words written to a stack pair -/

/-- The low byte survives the store of the high byte, which goes to another address (R104). -/
theorem State.writeWord_holds_lo (s : State) (a v : Word) : Holds s (s.writeWord a v) a (lo v) := fun hb => by
  have hne : a ≠ a + 1 := by bv_omega
  rw [State.writeWord_read8 hb, if_neg hne, if_pos rfl]

theorem State.writeWord_holds_hi (s : State) (a v : Word) : Holds s (s.writeWord a v) (a + 1) (hi v) := fun hb => by
  rw [State.writeWord_read8 hb, if_pos rfl]

/-- A write to a stack pair leaves every register but its halves alone; the low half of AF is the flags (R52, R53). -/
theorem State.setRegStk_sameRegsBut (s : State) (r : RegStk) (v : Word) : SameRegsBut s (s.setRegStk r v) r.halves := by
  cases r with
  | bc => exact s.setReg16_sameRegsBut .bc v
  | de => exact s.setReg16_sameRegsBut .de v
  | hl => exact s.setReg16_sameRegsBut .hl v
  | af => exact s.setReg8_sameRegsBut .a (hi v)

theorem State.popped_setRegStk_sameRegsBut (s : State) (r : RegStk) (v : Word) :
    SameRegsBut s (s.popped.setRegStk r v) r.halves :=
  fun q hq => (s.popped.setRegStk_sameRegsBut r v q hq).trans (s.popped_reg8 q)

/-! ## Reads of registers after writes elsewhere -/

theorem State.flags_reg8 (s : State) (f : Flags) (q : Reg8) : ({ s with flags := f } : State).reg8 q = s.reg8 q := by
  cases q <;> rfl

theorem State.flags_reg16 (s : State) (f : Flags) (r : Reg16) : ({ s with flags := f } : State).reg16 r = s.reg16 r := by
  cases r <;> rfl

@[simp] theorem State.charge_reg16 (s : State) (n : Nat) (r : Reg16) : (s.charge n).reg16 r = s.reg16 r := by
  cases r <;> rfl

/-! ## Straight-line effects -/

section
variable (s : State)

theorem State.setReg16_straightLine (r : Reg16) (v : Word) : StraightLine s (s.setReg16 r v) :=
  ⟨s.setReg16_dataOnly r v, s.setReg16_pc r v, s.setReg16_cycleCounter r v⟩

theorem State.writeWord_straightLine (a v : Word) : StraightLine s (s.writeWord a v) :=
  ⟨s.writeWord_dataOnly a v, s.writeWord_pc a v, s.writeWord_cycleCounter a v⟩

theorem State.push16_straightLine (v : Word) : StraightLine s (s.push16 v) :=
  ⟨s.push16_dataOnly v, s.push16_pc v, s.push16_cycleCounter v⟩

theorem State.popped_setRegStk_straightLine (r : RegStk) (v : Word) : StraightLine s (s.popped.setRegStk r v) :=
  ⟨s.popped_setRegStk_dataOnly r v, s.popped.setRegStk_pc r v, s.popped.setRegStk_cycleCounter r v⟩

theorem State.flags_straightLine (f : Flags) : StraightLine s { s with flags := f } :=
  ⟨s.flags_dataOnly f, rfl, rfl⟩

end

/-! ## What an effect stores, the instruction stores: the fetch and the count leave memory and the bus alone -/

section
variable {s u : State} {len : Nat}

theorem Stores.of_past_charge {ws : List (Word × Byte)} (h : Stores (s.past len) u ws) (n : Nat) :
    Stores s (u.charge n) ws :=
  ⟨h.1.trans (State.writes_mem_congr ws rfl rfl), h.2⟩

theorem Holds.of_past_charge {a : Word} {v : Byte} (h : Holds (s.past len) u a v) (n : Nat) : Holds s (u.charge n) a v :=
  h

end

/-! ## Instructions that write a pair or a word and retire -/

section
variable {i : Instr} {s : State} {cycles : Nat}

/-- An instruction that writes `v` to a pair and `f` to the flags retires and leaves everything else alone. -/
theorem CompletesOn.loadPair_flags {r : Reg16} {v : Word} {f : Flags}
    (h : CompletesOn i s { (s.past i.length).setReg16 r v with flags := f } cycles) :
    ∃ t, exec i s = .next t ∧ t.reg16 r = v ∧ SameRegsBut s t r.halves ∧ (r ≠ .sp → t.sp = s.sp) ∧ t.flags = f ∧
      SameMem s t ∧ Quiet s t ∧ Retires i s t cycles := by
  have hstraight := ((s.past i.length).setReg16_straightLine r v).trans (State.flags_straightLine _ f)
  have hregs : SameRegsBut (s.past i.length) { (s.past i.length).setReg16 r v with flags := f } r.halves :=
    fun q hq => (State.flags_reg8 _ f q).trans (State.setReg16_sameRegsBut _ r v q hq)
  refine ⟨_, h, ?loaded, hregs.of_past_charge _, State.setReg16_sp_other _ v, rfl,
    SameMem.of_mem (State.setReg16_mem _ r v) (State.setReg16_cfg _ r v), hstraight.quiet _, hstraight.retires cycles⟩
  case loaded => rw [State.charge_reg16, State.flags_reg16, State.reg16_setReg16_same]

/-- An instruction whose one write is of `v` to a pair retires and leaves everything else alone. -/
theorem CompletesOn.loadPair {r : Reg16} {v : Word} (h : CompletesOn i s ((s.past i.length).setReg16 r v) cycles) :
    ∃ t, exec i s = .next t ∧ t.reg16 r = v ∧ SameRegsBut s t r.halves ∧ (r ≠ .sp → t.sp = s.sp) ∧ t.flags = s.flags ∧
      SameMem s t ∧ Quiet s t ∧ Retires i s t cycles :=
  CompletesOn.loadPair_flags (by cases r <;> exact h)

/-- An instruction whose one write is of the word `v` to memory at `a` retires and leaves everything else alone. -/
theorem CompletesOn.storeWord {a v : Word} (h : CompletesOn i s ((s.past i.length).writeWord a v) cycles) :
    ∃ t, exec i s = .next t ∧ Stores s t [(a, lo v), (a + 1, hi v)] ∧ Holds s t a (lo v) ∧ Holds s t (a + 1) (hi v) ∧
      SameRegs s t ∧ t.flags = s.flags ∧ t.sp = s.sp ∧ Quiet s t ∧ Retires i s t cycles := by
  have hstraight := (s.past i.length).writeWord_straightLine a v
  have hregs : SameRegs (s.past i.length) ((s.past i.length).writeWord a v) := fun r _ => State.writeWord_reg8 _ a v r
  refine ⟨_, h, (State.writeWord_stores _ a v).of_past_charge _, (State.writeWord_holds_lo _ a v).of_past_charge _,
    (State.writeWord_holds_hi _ a v).of_past_charge _, hregs.of_past_charge _, ?flags, ?sp, hstraight.quiet _,
    hstraight.retires cycles⟩
  case flags => rw [State.charge_flags, State.writeWord_flags, State.past_flags]
  case sp => rw [State.charge_sp, State.writeWord_sp, State.past_sp]

/-- An instruction that only pushes the word with bytes `b` and `b'` retires and leaves everything else alone. -/
theorem CompletesOn.push {b b' : Byte} (h : CompletesOn i s ((s.past i.length).push16 (join b b')) cycles) :
    ∃ t, exec i s = .next t ∧
      (Stores s t [(s.sp - 1, b), (s.sp - 2, b')] ∧ Holds s t (s.sp - 1) b ∧ Holds s t (s.sp - 2) b') ∧
      t.sp = s.sp - 2 ∧ SameRegs s t ∧ t.flags = s.flags ∧ Quiet s t ∧ Retires i s t cycles := by
  have hstraight := (s.past i.length).push16_straightLine (join b b')
  have hregs : SameRegs (s.past i.length) ((s.past i.length).push16 (join b b')) := fun r _ => State.push16_reg8 _ _ r
  have hstores := (s.past i.length).push16_stores (join b b')
  have hhi := (s.past i.length).push16_holds_hi (join b b')
  have hlo := (s.past i.length).push16_holds_lo (join b b')
  rw [hi_join] at hstores hhi
  rw [lo_join] at hstores hlo
  refine ⟨_, h, ⟨hstores.of_past_charge _, hhi.of_past_charge _, hlo.of_past_charge _⟩, ?sp, hregs.of_past_charge _,
    ?flags, hstraight.quiet _, hstraight.retires cycles⟩
  case sp => rw [State.charge_sp, State.push16_sp, State.past_sp]
  case flags => rw [State.charge_flags, State.push16_flags, State.past_flags]

end

/-! ## The families `LD rr, n16`, `PUSH rr` and `POP rr` -/

theorem encode_ldPair (r : Reg16) (v : Word) :
    encode (Instr.ldPair r v) = [opXPQZ 0b00 r.index 0 0b001, lo v, hi v] := by
  cases r <;> rfl

theorem encode_push (r : RegStk) : encode (Instr.push r) = [opXPQZ 0b11 r.index 0 0b101] := by
  cases r <;> rfl

theorem encode_pop (r : RegStk) : encode (Instr.pop r) = [opXPQZ 0b11 r.index 0 0b001] := by
  cases r <;> rfl

/-- A pair is loaded with the immediate (R251). -/
theorem exec_ldPair (r : Reg16) (v : Word) (s : State) :
    CompletesOn (Instr.ldPair r v) s ((s.past (Instr.ldPair r v).length).setReg16 r v) 3 := by
  cases r <;> rfl

/-- A pop writes the pair with the byte above SP and the byte at SP, and SP is past both (R256, R257). -/
theorem exec_pop (r : RegStk) (s : State) :
    CompletesOn (Instr.pop r) s
      ((s.past (Instr.pop r).length).popped.setRegStk r (join (s.read8 (s.sp + 1)) (s.read8 s.sp))) 3 := by
  cases r <;> rfl

end Sys2Proof.Machine

namespace Sys2Proof.Proofs

open Sys2Proof Sys2Proof.Machine

/-- Settles O36: each form writes one pair, and `LD SP,HL` writes the pair that has no 8-bit halves. -/
theorem loadPairAndSP : Obligations.LoadPairAndSP := by
  unfold Obligations.LoadPairAndSP
  intro s
  refine ⟨fun r v => ⟨encode_ldPair r v, (exec_ldPair r v s).loadPair⟩, rfl, ?_⟩
  have hexec : CompletesOn .ld_sp_hl s ((s.past (Instr.length .ld_sp_hl)).setReg16 .sp s.hl) 2 := rfl
  obtain ⟨t, ht, hsp, hregs, -, hrest⟩ := hexec.loadPair
  exact ⟨t, ht, hsp, hregs, hrest⟩

/-- Settles O37: the two writes are those of a word store, whose addresses differ. -/
theorem storeSPAtAddress : Obligations.StoreSPAtAddress := by
  unfold Obligations.StoreSPAtAddress
  exact fun s k => ⟨rfl, CompletesOn.storeWord rfl⟩

/-- Settles O38: both forms compute the one sum and its flags; `LD HL,SP+e8` writes the sum to HL and ADD SP,e8 to SP. -/
theorem addDisplacementToSP : Obligations.AddDisplacementToSP := by
  unfold Obligations.AddDisplacementToSP
  intro s e
  have hsum : IsDisplaced (addSP s.sp e) s.sp e := isDisplaced_add_sext16 s.sp e
  obtain ⟨t, ht, (hhl : t.hl = addSP s.sp e), hregs, hsp, hflags, hmem, hquiet, hretires⟩ :=
    CompletesOn.loadPair_flags (i := .ld_hl_spE8 e) (r := .hl) (v := addSP s.sp e) (cycles := 3) rfl
  obtain ⟨u, hu, (husp : u.sp = addSP s.sp e), huregs, -, huflags, humem, huquiet, huretires⟩ :=
    CompletesOn.loadPair_flags (i := .add_sp_e8 e) (r := .sp) (v := addSP s.sp e) (cycles := 4) rfl
  refine ⟨rfl, rfl, t, u, ht, hu, hhl ▸ hsum, husp ▸ hsum, hsp (by decide), hflags.trans huflags.symm, ?z, ?n, ?h, ?c,
    hregs, huregs, hmem, humem, hquiet, huquiet, hretires, huretires⟩
  all_goals rw [hflags]
  case z | n => rfl
  case h => exact addSPFlags_h_iff s.sp e
  case c => exact addSPFlags_c_iff s.sp e

/-- Settles O39: each pair is pushed as the join of its two halves. -/
theorem pushPair : Obligations.PushPair := by
  unfold Obligations.PushPair
  intro s r
  refine ⟨encode_push r, ?completes⟩
  cases r with
  | bc | de | hl | af => exact CompletesOn.push rfl

/-- Settles O40: the word popped is the join of two bytes, and a pair is written by its halves; the low half of AF is F. -/
theorem popPair : Obligations.PopPair := by
  unfold Obligations.PopPair
  intro s r
  have hstraight := (s.past (Instr.pop r).length).popped_setRegStk_straightLine r
    (join (s.read8 (s.sp + 1)) (s.read8 s.sp))
  refine ⟨encode_pop r, _, exec_pop r s, ?popped, State.setRegStk_sp _ r _,
    (State.popped_setRegStk_sameRegsBut _ r _).of_past_charge _,
    SameMem.of_mem (State.setRegStk_mem _ r _) (State.setRegStk_cfg _ r _), hstraight.quiet _, hstraight.retires 3⟩
  case popped =>
    cases r with
    | bc | de | hl => exact ⟨hi_join _ _, lo_join _ _, rfl⟩
    | af =>
      have hflags : Flags.ofByte (lo (join (s.read8 (s.sp + 1)) (s.read8 s.sp))) = Flags.ofByte (s.read8 s.sp) :=
        congrArg Flags.ofByte (lo_join _ _)
      exact ⟨hi_join _ _, (congrArg Flags.toByte hflags).trans (Flags.toByte_ofByte _), congrArg Flags.z hflags,
        congrArg Flags.n hflags, congrArg Flags.h hflags, congrArg Flags.c hflags⟩

end Sys2Proof.Proofs
end

section
/-! PROOFS. 8-bit arithmetic and logic (R300 to R334): each computes a byte with its flags and puts the two in one operand. -/

namespace Sys2Proof

/-! ## Nibbles and decimal digits -/

/-- The low nibble of a byte, as a number. -/
theorem toNat_and_lowNibble (v : Byte) : (v &&& 0x0F).toNat = v.toNat % 16 := by
  rw [BitVec.toNat_and]
  exact Nat.and_two_pow_sub_one_eq_mod v.toNat 4

/-- The code of a two-digit decimal number, one digit a nibble. -/
def bcd (x : Nat) : Nat := x / 10 * 16 + x % 10

theorem toNat_ofNat_bcd {x : Nat} (h : x < 100) : (BitVec.ofNat 8 (bcd x)).toNat = bcd x := by
  rw [BitVec.toNat_ofNat, bcd]
  omega

/-- The low digit passes 9 when the sum of the codes carries out of the low nibble, or when that nibble is no digit. -/
theorem bcd_add_low_iff (x y : Nat) :
    (0x0F < bcd x % 16 + bcd y % 16 ∨ 0x09 < (bcd x + bcd y) % 256 % 16) ↔ 10 ≤ x % 10 + y % 10 := by
  rw [bcd, bcd]
  omega

/-- The high digit passes 9 exactly when the sum of the codes is above 0x99, which its carry or its byte tells. -/
theorem bcd_add_high_iff (x y : Nat) : (0xFF < bcd x + bcd y ∨ 0x99 < (bcd x + bcd y) % 256) ↔ 100 ≤ x + y := by
  have hsum : bcd x + bcd y = x + y + 6 * (x / 10 + y / 10) := by
    rw [bcd, bcd]
    omega
  have hbyte : (0xFF < bcd x + bcd y ∨ 0x99 < (bcd x + bcd y) % 256) ↔ 0x99 < bcd x + bcd y := by omega
  rw [hbyte, hsum]
  omega

/-- Each digit that passes 9 skips the six codes that are no digit. -/
theorem bcd_add_corrected {x y : Nat} (hx : x < 100) (hy : y < 100) :
    (bcd x + bcd y + (if 10 ≤ x % 10 + y % 10 then 0x06 else 0) + (if 100 ≤ x + y then 0x60 else 0)) % 256 =
      bcd ((x + y) % 100) := by
  rw [bcd, bcd, bcd]
  split <;> split <;> omega

namespace Machine

/-! ## Sums and differences (R301, R302) -/

section
variable (a b : Byte) (c : Nat)

theorem add8_res_toNat : (add8 a b c).res.toNat = (a.toNat + b.toNat + c) % 256 :=
  BitVec.toNat_ofNat _ 8

theorem add8_z_iff : (add8 a b c).flags.z = true ↔ (add8 a b c).res = 0 :=
  decide_eq_true_iff

theorem add8_n : (add8 a b c).flags.n = false := rfl

theorem add8_h_iff : (add8 a b c).flags.h = true ↔ 0x0F < a.toNat % 16 + b.toNat % 16 + c :=
  decide_eq_true_iff

theorem add8_c_iff : (add8 a b c).flags.c = true ↔ 0xFF < a.toNat + b.toNat + c :=
  decide_eq_true_iff

/-- The difference modulo 256: 512 is a multiple of 256 that no two subtrahends exceed. -/
theorem sub8_res_toNat {c : Nat} (hc : c ≤ 1) : (sub8 a b c).res.toNat = (a.toNat + 512 - b.toNat - c) % 256 := by
  have hres : (sub8 a b c).res.toNat = (((a.toNat : Int) - b.toNat - c) % 256).toNat := BitVec.toNat_ofInt _
  rw [hres]
  omega

theorem sub8_z_iff : (sub8 a b c).flags.z = true ↔ (sub8 a b c).res.toNat = 0 :=
  decide_eq_true_iff.trans BitVec.toNat_inj.symm

theorem sub8_h_iff : (sub8 a b c).flags.h = true ↔ a.toNat % 16 < b.toNat % 16 + c :=
  decide_eq_true_iff

theorem sub8_c_iff : (sub8 a b c).flags.c = true ↔ a.toNat < b.toNat + c := by
  have hneg : (sub8 a b c).flags.c = true ↔ (a.toNat : Int) - b.toNat - c < 0 := decide_eq_true_iff
  rw [hneg]
  omega

end

/-! ## The two-operand operations (R303 to R326) -/

/-- The byte of a logical operation; OR's for an operation that is none. -/
def logicRes (op : AluOp) (a v : Byte) : Byte :=
  if op = .and then a &&& v else if op = .xor then a ^^^ v else a ||| v

section
variable {op : AluOp} (a v : Byte) (carry : Bool)

/-- ADD and ADC are one sum; ADC has the carry as its third term. -/
theorem alu8_add (h : op = .add ∨ op = .adc) :
    alu8 op a v carry = add8 a v (if op = .adc ∧ carry = true then 1 else 0) := by
  rcases h with rfl | rfl
  · rfl
  · simp [alu8, flagNat]

/-- SUB, SBC and CP are one difference; SBC has the carry as its third term. -/
theorem alu8_sub (h : op = .sub ∨ op = .sbc ∨ op = .cp) :
    alu8 op a v carry = sub8 a v (if op = .sbc ∧ carry = true then 1 else 0) := by
  rcases h with rfl | rfl | rfl
  · rfl
  · simp [alu8, flagNat]
  · rfl

theorem alu8_logic (h : op = .and ∨ op = .xor ∨ op = .or) :
    alu8 op a v carry = logic8 (logicRes op a v) (decide (op = .and)) := by
  rcases h with rfl | rfl | rfl <;> rfl

theorem logicRes_getLsbD (j : Nat) :
    (logicRes op a v).getLsbD j =
      if op = .and then (a.getLsbD j && v.getLsbD j)
      else if op = .xor then (a.getLsbD j != v.getLsbD j)
      else (a.getLsbD j || v.getLsbD j) := by
  rw [logicRes]
  split
  · exact BitVec.getLsbD_and
  · split
    · exact BitVec.getLsbD_xor
    · exact BitVec.getLsbD_or

end

/-! ## INC and DEC (R327 to R330) -/

section
variable (v : Byte) (f : Flags)

theorem inc8_z_iff : (inc8 v f).flags.z = true ↔ v.toNat = 0xFF := by
  have hz : (inc8 v f).flags.z = true ↔ v + 1 = 0 := decide_eq_true_iff
  rw [hz]
  bv_omega

theorem inc8_h_iff : (inc8 v f).flags.h = true ↔ v.toNat % 16 = 0xF := by
  rw [← toNat_and_lowNibble]
  exact decide_eq_true_iff.trans BitVec.toNat_inj.symm

theorem dec8_z_iff : (dec8 v f).flags.z = true ↔ v.toNat = 0x01 := by
  have hz : (dec8 v f).flags.z = true ↔ v - 1 = 0 := decide_eq_true_iff
  rw [hz]
  bv_omega

theorem dec8_h_iff : (dec8 v f).flags.h = true ↔ v.toNat % 16 = 0x0 := by
  rw [← toNat_and_lowNibble]
  exact decide_eq_true_iff.trans BitVec.toNat_inj.symm

end

/-! ## DAA (R331) -/

/-- The correction of the low digit. -/
def daaLow (a : Byte) (f : Flags) : Nat :=
  if f.h = true ∨ (f.n = false ∧ 0x09 < a.toNat % 16) then 0x06 else 0

/-- The correction of the high digit. -/
def daaHigh (a : Byte) (f : Flags) : Nat :=
  if f.c = true ∨ (f.n = false ∧ 0x99 < a.toNat) then 0x60 else 0

/-- After an addition both corrections are added: that of the high digit keeps the low nibble, which the other one tests. -/
theorem daaAdjust_res_of_add (a : Byte) {f : Flags} (hn : f.n = false) :
    (daaAdjust a f).1.toNat = (a.toNat + daaLow a f + daaHigh a f) % 256 := by
  have hkept : (a + 0x60).toNat % 16 = a.toNat % 16 := by bv_omega
  simp only [daaAdjust, daaLow, daaHigh, hn, toNat_and_lowNibble, true_and, Bool.or_eq_true, decide_eq_true_eq, gt_iff_lt]
  by_cases hhigh : f.c = true ∨ 0x99 < a.toNat
  · simp only [hhigh, if_true, hkept]
    split <;> bv_omega
  · simp only [hhigh, if_false]
    split <;> bv_omega

theorem daaAdjust_res_of_sub (a : Byte) {f : Flags} (hn : f.n = true) :
    (daaAdjust a f).1.toNat = (a.toNat + 512 - daaLow a f - daaHigh a f) % 256 := by
  simp only [daaAdjust, daaLow, daaHigh, hn, Bool.true_eq_false, false_and, or_false]
  split <;> split <;> bv_omega

theorem daaAdjust_res (a : Byte) (f : Flags) :
    (daaAdjust a f).1.toNat =
      (if f.n then a.toNat + 512 - daaLow a f - daaHigh a f else a.toNat + daaLow a f + daaHigh a f) % 256 := by
  split
  next hn => exact daaAdjust_res_of_sub a hn
  next hn => exact daaAdjust_res_of_add a (Bool.eq_false_of_not_eq_true hn)

theorem daaAdjust_carry_iff (a : Byte) (f : Flags) : (daaAdjust a f).2 = true ↔ daaHigh a f = 0x60 := by
  have hhigh : daaHigh a f = 0x60 ↔ f.c = true ∨ (f.n = false ∧ 0x99 < a.toNat) :=
    (by decide : 0x60 ≠ 0).ite_eq_left_iff
  rw [hhigh, daaAdjust]
  cases f.n <;> simp

/-! ## DAA after the sum of two decimal codes -/

/-- The sum of two decimal codes, with its flags. -/
def addBcd (x y : Nat) : Alu8 := add8 (BitVec.ofNat 8 (bcd x)) (BitVec.ofNat 8 (bcd y)) 0

theorem addBcd_n (x y : Nat) : (addBcd x y).flags.n = false := add8_n ..

section
variable {x y : Nat} (hx : x < 100) (hy : y < 100)
include hx hy

theorem addBcd_res_toNat : (addBcd x y).res.toNat = (bcd x + bcd y) % 256 := by
  rw [addBcd, add8_res_toNat, toNat_ofNat_bcd hx, toNat_ofNat_bcd hy, Nat.add_zero]

theorem addBcd_h_iff : (addBcd x y).flags.h = true ↔ 0x0F < bcd x % 16 + bcd y % 16 := by
  rw [addBcd, add8_h_iff, toNat_ofNat_bcd hx, toNat_ofNat_bcd hy, Nat.add_zero]

theorem addBcd_c_iff : (addBcd x y).flags.c = true ↔ 0xFF < bcd x + bcd y := by
  rw [addBcd, add8_c_iff, toNat_ofNat_bcd hx, toNat_ofNat_bcd hy, Nat.add_zero]

/-- The low digit is corrected when it passes 9. -/
theorem daaLow_addBcd :
    daaLow (addBcd x y).res (addBcd x y).flags = if 10 ≤ x % 10 + y % 10 then 0x06 else 0 := by
  simp only [daaLow, addBcd_h_iff hx hy, addBcd_res_toNat hx hy, addBcd_n, true_and, bcd_add_low_iff]

/-- The high digit is corrected when it passes 9. -/
theorem daaHigh_addBcd : daaHigh (addBcd x y).res (addBcd x y).flags = if 100 ≤ x + y then 0x60 else 0 := by
  simp only [daaHigh, addBcd_c_iff hx hy, addBcd_res_toNat hx hy, addBcd_n, true_and, bcd_add_high_iff]

/-- DAA makes of the sum of two decimal codes the code of the decimal sum modulo 100. -/
theorem daaAdjust_addBcd_res :
    (daaAdjust (addBcd x y).res (addBcd x y).flags).1 = BitVec.ofNat 8 (bcd ((x + y) % 100)) := by
  have hmod : (x + y) % 100 < 100 := Nat.mod_lt _ (by decide)
  refine BitVec.eq_of_toNat_eq ?_
  rw [daaAdjust_res_of_add _ (addBcd_n x y), daaLow_addBcd hx hy, daaHigh_addBcd hx hy, addBcd_res_toNat hx hy,
    toNat_ofNat_bcd hmod, ← bcd_add_corrected hx hy, Nat.add_assoc, Nat.mod_add_mod, ← Nat.add_assoc]

/-- DAA's carry is the hundred. -/
theorem daaAdjust_addBcd_carry_iff :
    (daaAdjust (addBcd x y).res (addBcd x y).flags).2 = true ↔ 100 ≤ x + y := by
  rw [daaAdjust_carry_iff, daaHigh_addBcd hx hy]
  exact (by decide : 0x60 ≠ 0).ite_eq_left_iff

end

/-! ## Instructions that put a byte and its flags in an operand -/

/-- A byte written to an `r8` operand, with its flags. -/
def State.putLoc (s : State) (x : Loc8) (r : Alu8) : State :=
  match x with
  | .reg q => s.putReg q r
  | .atHL => s.putAtHL r

theorem State.putLoc_straightLine (s : State) (x : Loc8) (r : Alu8) : StraightLine s (s.putLoc x r) := by
  cases x with
  | reg q => exact ⟨s.putReg_dataOnly q r, s.putReg_pc q r, s.putReg_cycleCounter q r⟩
  | atHL => exact ⟨s.putAtHL_dataOnly r, s.putAtHL_pc r, s.putAtHL_cycleCounter r⟩

theorem State.putLoc_flags (s : State) (x : Loc8) (r : Alu8) : (s.putLoc x r).flags = r.flags := by
  cases x with
  | reg q => exact s.setReg8_flags_putReg q r
  | atHL => rfl

theorem State.putLoc_sp (s : State) (x : Loc8) (r : Alu8) : (s.putLoc x r).sp = s.sp := by
  cases x with
  | reg q => exact s.putReg_sp q r
  | atHL => rfl

theorem State.putReg_sameRegsBut (s : State) (q : Reg8) (r : Alu8) : SameRegsBut s (s.putReg q r) [q] :=
  fun _ hp => s.putReg_reg8_other r (List.ne_of_not_mem_cons hp)

theorem State.putAtHL_sameRegs (s : State) (r : Alu8) : SameRegs s (s.putAtHL r) :=
  fun q _ => s.putAtHL_reg8 r q

theorem onlyLoc_reg_iff {s t : State} {q : Reg8} {v : Byte} :
    OnlyLoc s t (.reg q) v ↔ t.reg8 q = v ∧ SameRegsBut s t [q] ∧ SameMem s t :=
  Iff.rfl

theorem onlyLoc_atHL_iff {s t : State} {v : Byte} :
    OnlyLoc s t .atHL v ↔ Stores s t [(s.hl, v)] ∧ Holds s t s.hl v ∧ SameRegs s t :=
  Iff.rfl

/-- Between the fetch and the count, a result put in an operand changes nothing else of the registers and memory. -/
theorem State.putLoc_onlyLoc (s : State) (len : Nat) (x : Loc8) (r : Alu8) (n : Nat) :
    OnlyLoc s (((s.past len).putLoc x r).charge n) x r.res := by
  cases x with
  | reg q =>
    refine onlyLoc_reg_iff.mpr ⟨?put, (State.putReg_sameRegsBut _ q r).of_past_charge n,
      SameMem.of_mem (State.putReg_mem _ q r) (State.putReg_cfg _ q r)⟩
    rw [State.charge_reg8, State.putLoc, State.putReg_reg8_same]
  | atHL =>
    exact onlyLoc_atHL_iff.mpr ⟨Stores.of_mem rfl rfl,
      fun hb => State.write8_read8_same (s := s.past len) hb s.hl r.res, (State.putAtHL_sameRegs _ r).of_past_charge n⟩

section
variable {i : Instr} {s : State} {cycles : Nat}

/-- An instruction whose one effect is to put a byte and its flags in an operand retires and leaves everything else alone. -/
theorem CompletesOn.putLoc {x : Loc8} {r : Alu8} (h : CompletesOn i s ((s.past i.length).putLoc x r) cycles) :
    ∃ t, exec i s = .next t ∧ OnlyLoc s t x r.res ∧ t.flags = r.flags ∧ t.sp = s.sp ∧ Quiet s t ∧
      Retires i s t cycles := by
  have hstraight := (s.past i.length).putLoc_straightLine x r
  exact ⟨_, h, s.putLoc_onlyLoc _ x r _, State.putLoc_flags _ x r, State.putLoc_sp _ x r, hstraight.quiet _,
    hstraight.retires cycles⟩

/-- As `CompletesOn.putLoc` for A. -/
theorem CompletesOn.putA {r : Alu8} (h : CompletesOn i s ((s.past i.length).putReg .a r) cycles) :
    ∃ t, exec i s = .next t ∧ t.a = r.res ∧ t.flags = r.flags ∧ SameRegsBut s t [.a] ∧ t.sp = s.sp ∧ SameMem s t ∧
      Quiet s t ∧ Retires i s t cycles := by
  obtain ⟨t, ht, ⟨ha, hregs, hmem⟩, hflags, hsp, hquiet, hretires⟩ := CompletesOn.putLoc (x := .reg .a) h
  exact ⟨t, ht, ha, hflags, hregs, hsp, hmem, hquiet, hretires⟩

/-- An instruction whose one write is of the flags retires and leaves everything else alone. -/
theorem CompletesOn.putFlags {f : Flags} (h : CompletesOn i s { s.past i.length with flags := f } cycles) :
    ∃ t, exec i s = .next t ∧ t.flags = f ∧ SameRegs s t ∧ t.sp = s.sp ∧ SameMem s t ∧ Quiet s t ∧
      Retires i s t cycles := by
  have hstraight := (s.past i.length).flags_straightLine f
  have hregs : SameRegs (s.past i.length) { s.past i.length with flags := f } := fun q _ => State.flags_reg8 _ f q
  exact ⟨_, h, rfl, hregs.of_past_charge _, rfl, SameMem.of_mem rfl rfl, hstraight.quiet _, hstraight.retires cycles⟩

end

/-! ## The families of two-operand operations, INC and DEC -/

/-- The opcode byte has the operation's index and the operand's, and an immediate byte follows it (R157, R300). -/
theorem encode_alu (op : AluOp) (src : Src8) :
    match src with
    | .reg r => encode (Instr.alu op src) = [opXYZ 0b10 op.index r.index]
    | .atHL => encode (Instr.alu op src) = [opXYZ 0b10 op.index 0b110]
    | .imm n => encode (Instr.alu op src) = [opXYZ 0b11 op.index 0b110, n] := by
  cases src with
  | reg r => cases op <;> cases r <;> rfl
  | atHL => cases op <;> rfl
  | imm n => cases op <;> rfl

/-- A two-operand operation is on A, the source's value and the carry, all as before the instruction (R300). -/
theorem exec_alu (op : AluOp) (src : Src8) (s : State) :
    CompletesOn (Instr.alu op src) s ((s.past (Instr.alu op src).length).alu op (src.value s)) src.cycles := by
  cases src with
  | reg r => cases op <;> cases r <;> rfl
  | atHL => cases op <;> rfl
  | imm n => cases op <;> rfl

/-- What a two-operand operation does: A is the result but for CP, and the flags are the result's. -/
theorem exec_alu_completes (op : AluOp) (src : Src8) (s : State) :
    ∃ t, exec (Instr.alu op src) s = .next t ∧
      t.a = (if op = .cp then s.a else (alu8 op s.a (src.value s) s.flags.c).res) ∧
      t.flags = (alu8 op s.a (src.value s) s.flags.c).flags ∧
      SameRegsBut s t [.a] ∧ t.sp = s.sp ∧ SameMem s t ∧ Quiet s t ∧ Retires (Instr.alu op src) s t src.cycles :=
  CompletesOn.putA (r := { alu8 op s.a (src.value s) s.flags.c with
    res := if op = .cp then s.a else (alu8 op s.a (src.value s) s.flags.c).res }) (exec_alu op src s)

theorem encode_inc8 (x : Loc8) : encode (Instr.inc8 x) = [opXYZ 0b00 x.index 0b100] := by
  cases x with
  | reg r => cases r <;> rfl
  | atHL => rfl

theorem encode_dec8 (x : Loc8) : encode (Instr.dec8 x) = [opXYZ 0b00 x.index 0b101] := by
  cases x with
  | reg r => cases r <;> rfl
  | atHL => rfl

/-- INC puts the operand's successor in the operand (R327, R328). -/
theorem exec_inc8 (x : Loc8) (s : State) :
    CompletesOn (Instr.inc8 x) s ((s.past (Instr.inc8 x).length).putLoc x (inc8 (x.value s) s.flags)) (x.cycles 1 3) := by
  cases x with
  | reg r => cases r <;> rfl
  | atHL => rfl

/-- DEC puts the operand's predecessor in the operand (R329, R330). -/
theorem exec_dec8 (x : Loc8) (s : State) :
    CompletesOn (Instr.dec8 x) s ((s.past (Instr.dec8 x).length).putLoc x (dec8 (x.value s) s.flags)) (x.cycles 1 3) := by
  cases x with
  | reg r => cases r <;> rfl
  | atHL => rfl

end Machine

end Sys2Proof

namespace Sys2Proof.Proofs

open Sys2Proof Sys2Proof.Machine

/-- Settles O41: ADD and ADC are one sum, of A, the operand and the carry-in. -/
theorem addAndAddWithCarry : Obligations.AddAndAddWithCarry := by
  unfold Obligations.AddAndAddWithCarry
  intro op src s hop
  obtain ⟨t, ht, ha, hflags, hframe⟩ := exec_alu_completes op src s
  have hcp : op ≠ .cp := by rcases hop with rfl | rfl <;> decide
  rw [if_neg hcp] at ha
  rw [alu8_add _ _ _ hop] at ha hflags
  refine ⟨encode_alu op src, t, ht, ⟨?sum, ?z, ?n, ?h, ?c⟩, hframe⟩
  case sum => rw [ha, add8_res_toNat]
  all_goals rw [hflags]
  case z => rw [ha, add8_z_iff]
  case n => exact add8_n ..
  case h => exact add8_h_iff ..
  case c => exact add8_c_iff ..

/-- Settles O42: SUB, SBC and CP are one difference, of A, the operand and the borrow-in. -/
theorem subtractWithCarryAndCompare : Obligations.SubtractWithCarryAndCompare := by
  unfold Obligations.SubtractWithCarryAndCompare
  intro op src s hop
  obtain ⟨t, ht, ha, hflags, hframe⟩ := exec_alu_completes op src s
  rw [alu8_sub _ _ _ hop] at ha hflags
  have hdiff := sub8_res_toNat s.a (src.value s) (c := if op = .sbc ∧ s.flags.c = true then 1 else 0) (by split <;> omega)
  refine ⟨encode_alu op src, t, ht, ⟨?diff, ?z, ?n, ?h, ?c⟩, hframe⟩
  case diff => rw [ha, apply_ite BitVec.toNat, hdiff]
  all_goals rw [hflags]
  case z => rw [sub8_z_iff, hdiff]
  case n => rfl
  case h => exact sub8_h_iff ..
  case c => exact sub8_c_iff ..

/-- Settles O43: AND, XOR and OR are one bitwise operation, whose flags depend on its byte and on whether it is AND. -/
theorem logicOperations : Obligations.LogicOperations := by
  unfold Obligations.LogicOperations
  intro op src s hop
  obtain ⟨t, ht, ha, hflags, hframe⟩ := exec_alu_completes op src s
  have hcp : op ≠ .cp := by rcases hop with rfl | rfl | rfl <;> decide
  rw [if_neg hcp] at ha
  rw [alu8_logic _ _ _ hop] at ha hflags
  refine ⟨encode_alu op src, t, ht, ?bits, ?z, ?n, ?h, ?c, hframe⟩
  case bits =>
    intro j
    rw [ha]
    exact logicRes_getLsbD s.a (src.value s) j
  all_goals rw [hflags]
  case z =>
    rw [ha]
    exact decide_eq_true_iff
  case n | c => rfl
  case h => exact decide_eq_true_iff

/-- Settles O44: each puts the operand's neighbour and its flags in the operand. -/
theorem incrementAndDecrement8 : Obligations.IncrementAndDecrement8 := by
  unfold Obligations.IncrementAndDecrement8
  intro x s
  obtain ⟨t, ht, hloc, hflags, hsp, hquiet, hretires⟩ := (exec_inc8 x s).putLoc
  obtain ⟨u, hu, huloc, huflags, husp, huquiet, huretires⟩ := (exec_dec8 x s).putLoc
  refine ⟨encode_inc8 x, encode_dec8 x, t, u, ht, hu, hloc, huloc, ?_⟩
  rw [hflags, huflags]
  exact ⟨inc8_z_iff .., rfl, inc8_h_iff .., rfl, dec8_z_iff .., rfl, dec8_h_iff .., rfl, hsp, husp,
    hquiet, huquiet, hretires, huretires⟩

/-- Settles O45: the digits are corrected apart, though the rule corrects the high one first. -/
theorem decimalAdjust : Obligations.DecimalAdjust := by
  unfold Obligations.DecimalAdjust
  intro s
  obtain ⟨t, ht, ha, hflags, hframe⟩ := CompletesOn.putA (i := .daa) (s := s) (r := daa8 s.a s.flags) (cycles := 1) rfl
  refine ⟨rfl, t, ht, ⟨?corrected, ?c⟩, ?z, ?n, ?h, hframe⟩
  case corrected =>
    rw [ha]
    exact daaAdjust_res s.a s.flags
  all_goals rw [hflags]
  case c => exact daaAdjust_carry_iff s.a s.flags
  case z =>
    rw [ha]
    exact decide_eq_true_iff
  case n | h => rfl

/-- Settles O46: ADD sums the two codes, and DAA skips the codes that are no digit where a digit of the sum passes 9. -/
theorem decimalAdditionIsDecimal : Obligations.DecimalAdditionIsDecimal := by
  unfold Obligations.DecimalAdditionIsDecimal
  intro s x y hx hy (hsa : s.a = BitVec.ofNat 8 (bcd x)) (hsb : s.b = BitVec.ofNat 8 (bcd y))
  obtain ⟨t, ht, (hta : t.a = (add8 s.a s.b 0).res), (htflags : t.flags = (add8 s.a s.b 0).flags), -⟩ :=
    exec_alu_completes .add (.reg .b) s
  obtain ⟨u, hu, (hua : u.a = (daaAdjust t.a t.flags).1), huflags, -⟩ :=
    CompletesOn.putA (i := .daa) (s := t) (r := daa8 t.a t.flags) (cycles := 1) rfl
  have hcarry : u.flags.c = (daaAdjust t.a t.flags).2 := congrArg Flags.c huflags
  have hunits : (x + y) % 10 = (x + y) % 100 % 10 := (Nat.mod_mod_of_dvd _ (by decide)).symm
  rw [hta, htflags, hsa, hsb, ← addBcd] at hua hcarry
  refine ⟨t, u, ht, hu, ?sum, ?hundred⟩
  case sum =>
    rw [hua, hunits]
    exact daaAdjust_addBcd_res hx hy
  case hundred =>
    rw [hcarry]
    exact daaAdjust_addBcd_carry_iff hx hy

/-- Settles O47: CPL puts A's complement in A, and SCF and CCF write the flags alone. -/
theorem complementAndCarryFlagOperations : Obligations.ComplementAndCarryFlagOperations := by
  unfold Obligations.ComplementAndCarryFlagOperations
  intro s
  obtain ⟨t, ht, ha, hflags, hregs, hsp, hmem, hquiet, hretires⟩ :=
    CompletesOn.putA (i := .cpl) (s := s) (r := cpl8 s.a s.flags) (cycles := 1) rfl
  obtain ⟨u, hu, huflags, huregs, husp, humem, huquiet, huretires⟩ :=
    CompletesOn.putFlags (i := .scf) (s := s) (f := scfFlags s.flags) (cycles := 1) rfl
  obtain ⟨v, hv, hvflags, hvregs, hvsp, hvmem, hvquiet, hvretires⟩ :=
    CompletesOn.putFlags (i := .ccf) (s := s) (f := ccfFlags s.flags) (cycles := 1) rfl
  have hinverted : t.a.toNat = 255 - s.a.toNat := (congrArg BitVec.toNat ha).trans BitVec.toNat_not
  exact ⟨rfl, rfl, rfl, t, u, v, ht, hu, hv, hinverted, hflags, huflags, hvflags, hregs, huregs, hvregs, hsp, husp, hvsp,
    hmem, humem, hvmem, hquiet, huquiet, hvquiet, hretires, huretires, hvretires⟩

end Sys2Proof.Proofs
end

section
/-! PROOFS. 16-bit arithmetic on pairs (R350 to R353): each writes one pair, and ADD HL,rr the flags besides. -/

namespace Sys2Proof.Machine

/-! ## The sum of two pairs -/

section
variable (a b : Word) (f : Flags)

theorem add16_toNat : (add16 a b).toNat = (a.toNat + b.toNat) % 65536 :=
  BitVec.toNat_ofNat _ 16

theorem add16Flags_h_iff : (add16Flags a b f).h = true ↔ 0x0FFF < a.toNat % 0x1000 + b.toNat % 0x1000 :=
  decide_eq_true_iff

theorem add16Flags_c_iff : (add16Flags a b f).c = true ↔ 0xFFFF < a.toNat + b.toNat :=
  decide_eq_true_iff

end

/-! ## The families `ADD HL, rr`, `INC rr` and `DEC rr` -/

section
variable (r : Reg16)

theorem encode_addHL : encode (Instr.addHL r) = [opXPQZ 0b00 r.index 1 0b001] := by
  cases r <;> rfl

theorem encode_inc16 : encode (Instr.inc16 r) = [opXPQZ 0b00 r.index 0 0b011] := by
  cases r <;> rfl

theorem encode_dec16 : encode (Instr.dec16 r) = [opXPQZ 0b00 r.index 1 0b011] := by
  cases r <;> rfl

/-- HL gets the sum of HL and the pair as before the instruction, also when the pair is HL (R351). -/
theorem exec_addHL (s : State) :
    CompletesOn (Instr.addHL r) s
      { (s.past (Instr.addHL r).length).setReg16 .hl (add16 s.hl (s.reg16 r)) with
        flags := add16Flags s.hl (s.reg16 r) s.flags } 2 := by
  cases r <;> rfl

theorem exec_inc16 (s : State) :
    CompletesOn (Instr.inc16 r) s ((s.past (Instr.inc16 r).length).setReg16 r (s.reg16 r + 1)) 2 := by
  cases r <;> rfl

theorem exec_dec16 (s : State) :
    CompletesOn (Instr.dec16 r) s ((s.past (Instr.dec16 r).length).setReg16 r (s.reg16 r - 1)) 2 := by
  cases r <;> rfl

end

end Sys2Proof.Machine

namespace Sys2Proof.Proofs

open Sys2Proof Sys2Proof.Machine

/-- Settles O48: ADD writes the sum to HL with its flags, and INC and DEC write the pair's neighbour to the pair alone. -/
theorem pairArithmetic : Obligations.PairArithmetic := by
  unfold Obligations.PairArithmetic
  intro r s
  obtain ⟨t, ht, (hhl : t.hl = add16 s.hl (s.reg16 r)), hregs, hsp, hflags, hmem, hquiet, hretires⟩ :=
    (exec_addHL r s).loadPair_flags
  obtain ⟨u, hu, hinc, huregs, husp, huflags, humem, huquiet, huretires⟩ := (exec_inc16 r s).loadPair
  obtain ⟨v, hv, hdec, hvregs, hvsp, hvflags, hvmem, hvquiet, hvretires⟩ := (exec_dec16 r s).loadPair
  refine ⟨encode_addHL r, encode_inc16 r, encode_dec16 r, t, u, v, ht, hu, hv, ?sum, ?z, ?n, ?h, ?c, hregs,
    hsp (by decide), hinc, hdec, huflags, hvflags, huregs, hvregs, fun hr => ⟨husp hr, hvsp hr⟩, hmem, humem, hvmem,
    hquiet, huquiet, hvquiet, hretires, huretires, hvretires⟩
  case sum => rw [hhl, add16_toNat]
  all_goals rw [hflags]
  case z | n => rfl
  case h => exact add16Flags_h_iff ..
  case c => exact add16Flags_c_iff ..

end Sys2Proof.Proofs
end

section
/-! PROOFS. Rotates, shifts and single-bit operations (R400 to R426): each computes a byte from one operand and puts it back with
its flags, or, for RES and SET, without them; BIT writes the flags alone. -/

namespace Sys2Proof

/-! ## The bits of a byte, as numbers -/

/-- Where one byte has only bits at `k` and above and the other only bits below, their OR is their sum. -/
theorem toNat_or_eq_add {x y : Byte} {k : Nat} (hx : 2 ^ k ∣ x.toNat) (hy : y.toNat < 2 ^ k) :
    (x ||| y).toNat = x.toNat + y.toNat := by
  obtain ⟨m, hm⟩ := hx
  rw [BitVec.toNat_or, hm, Nat.two_pow_add_eq_or_of_lt hy]

theorem toNat_shiftLeft_byte (v : Byte) (k : Nat) : (v <<< k).toNat = 2 ^ k * v.toNat % 256 := by
  rw [BitVec.toNat_shiftLeft, Nat.shiftLeft_eq, Nat.mul_comm]

theorem toNat_shiftRight_byte (v : Byte) (k : Nat) : (v >>> k).toNat = v.toNat / 2 ^ k := by
  rw [BitVec.toNat_ushiftRight, Nat.shiftRight_eq_div_pow]

/-- The highest bit of a byte says that it is 128 or more. -/
theorem getLsbD_seven_iff (v : Byte) : v.getLsbD 7 = true ↔ 128 ≤ v.toNat := by
  have hmsb : v.msb = v.getLsbD 7 := BitVec.msb_eq_getLsbD_last v
  rw [← hmsb, BitVec.msb_eq_true_iff_two_mul_ge]
  omega

/-- The lowest bit of a byte says that it is odd. -/
theorem getLsbD_zero_iff (v : Byte) : v.getLsbD 0 = true ↔ v.toNat % 2 = 1 := by
  rw [BitVec.getLsbD, Nat.testBit_zero, decide_eq_true_iff]

/-- The highest bit alone, the others cleared. -/
theorem toNat_and_highBit (v : Byte) : (v &&& 0x80).toNat = if 128 ≤ v.toNat then 128 else 0 := by
  have hpow : (0x80 : Byte) = BitVec.twoPow 8 7 := rfl
  rw [hpow, BitVec.and_twoPow, apply_ite BitVec.toNat, if_congr (getLsbD_seven_iff v) rfl rfl]
  rfl

namespace Machine

/-! ## A bit shifted in -/

section
variable (v : Byte) (c : Bool)

theorem flagByte_toNat : (flagByte c).toNat = flagNat c := by
  cases c <;> rfl

theorem flagNat_le_one : flagNat c ≤ 1 := by
  cases c <;> decide

theorem flagNat_getLsbD_seven : flagNat (v.getLsbD 7) = v.toNat / 128 := by
  rw [flagNat, if_congr (getLsbD_seven_iff v) rfl rfl]
  split <;> omega

theorem flagNat_getLsbD_zero : flagNat (v.getLsbD 0) = v.toNat % 2 := by
  rw [flagNat, if_congr (getLsbD_zero_iff v) rfl rfl]
  split <;> omega

/-- The byte shifted to the left, with `c` shifted in. -/
theorem toNat_shiftLeft_or_flagByte : (v <<< 1 ||| flagByte c).toNat = (2 * v.toNat + flagNat c) % 256 := by
  have hshift : (v <<< 1).toNat = 2 * v.toNat % 256 := toNat_shiftLeft_byte v 1
  have hflag := flagByte_toNat c
  have hle := flagNat_le_one c
  rw [toNat_or_eq_add (k := 1) (by omega) (by omega)]
  omega

/-- The byte shifted to the right, with `c` shifted in. -/
theorem toNat_shiftRight_or_flagByte : (v >>> 1 ||| flagByte c <<< 7).toNat = v.toNat / 2 + 128 * flagNat c := by
  have hshift : (v >>> 1).toNat = v.toNat / 2 := toNat_shiftRight_byte v 1
  have hflag : (flagByte c <<< 7).toNat = 128 * flagNat c := by cases c <;> rfl
  rw [BitVec.or_comm, toNat_or_eq_add (k := 7) (by omega) (by omega)]
  omega

end

/-! ## Rotates, shifts and SWAP (R401 to R420) -/

section
variable (op : ShiftOp) (v : Byte) (c : Bool)

theorem shiftRes_sra_toNat : (shiftRes .sra v c).toNat = shiftNat .sra v.toNat (flagNat c) := by
  have hshift : (v >>> 1).toNat = v.toNat / 2 := toNat_shiftRight_byte v 1
  have hhigh := toNat_and_highBit v
  have hdvd : 2 ^ 7 ∣ (v &&& 0x80).toNat := by
    rw [hhigh]
    split <;> decide
  rw [shiftRes, BitVec.or_comm, toNat_or_eq_add hdvd (by omega), hhigh, hshift, Nat.add_comm, shiftNat]

theorem shiftRes_swap_toNat : (shiftRes .swap v c).toNat = shiftNat .swap v.toNat (flagNat c) := by
  have hlow : ((v &&& 0x0F) <<< 4).toNat = 2 ^ 4 * (v &&& 0x0F).toNat % 256 := toNat_shiftLeft_byte _ 4
  have hhigh : (v >>> 4).toNat = v.toNat / 2 ^ 4 := toNat_shiftRight_byte v 4
  rw [toNat_and_lowNibble] at hlow
  rw [shiftRes, toNat_or_eq_add (k := 4) (by omega) (by omega), shiftNat]
  omega

/-- The result byte is the arithmetic one, the carry-in a number. -/
theorem shiftRes_toNat : (shiftRes op v c).toNat = shiftNat op v.toNat (flagNat c) := by
  cases op with
  | rlc => rw [shiftRes, toNat_shiftLeft_or_flagByte, flagNat_getLsbD_seven, shiftNat]
  | rrc => rw [shiftRes, toNat_shiftRight_or_flagByte, flagNat_getLsbD_zero, shiftNat]
  | rl => exact toNat_shiftLeft_or_flagByte v c
  | rr => exact toNat_shiftRight_or_flagByte v c
  | sla => exact toNat_shiftLeft_byte v 1
  | sra => exact shiftRes_sra_toNat v c
  | swap => exact shiftRes_swap_toNat v c
  | srl => exact toNat_shiftRight_byte v 1

/-- The carry says that the bit moved out is 1. -/
theorem shiftCarry_iff : shiftCarry op v = true ↔ ShiftsOutOne op v.toNat := by
  cases op with
  | rlc | rl | sla => exact getLsbD_seven_iff v
  | rrc | rr | sra | srl => exact getLsbD_zero_iff v
  | swap => exact iff_of_false Bool.false_ne_true id

end

theorem zAcc_iff (cfg : Config) (res : Byte) : zAcc cfg res = true ↔ cfg.accRotateZ = .resultZero ∧ res = 0 := by
  rw [zAcc]
  cases cfg.accRotateZ <;> simp

/-! ## Single bits (R421 to R426) -/

section
variable (b j : Fin 8) (v : Byte)

theorem getLsbD_one_shiftLeft : ((1 : Byte) <<< b.val).getLsbD j.val = decide (j = b) := by
  have hpow : (1 : Byte) <<< b.val = BitVec.twoPow 8 b.val := rfl
  rw [hpow, BitVec.getLsbD_twoPow]
  simp [Fin.ext_iff, eq_comm]

/-- RES clears its bit and keeps the others. -/
theorem resBit_getLsbD : (resBit b v).getLsbD j.val = if j = b then false else v.getLsbD j.val := by
  rw [resBit, BitVec.getLsbD_and, BitVec.getLsbD_not, getLsbD_one_shiftLeft]
  split <;> simp [*]

/-- SET sets its bit and keeps the others. -/
theorem setBit_getLsbD : (setBit b v).getLsbD j.val = if j = b then true else v.getLsbD j.val := by
  rw [setBit, BitVec.getLsbD_or, getLsbD_one_shiftLeft]
  split <;> simp [*]

end

/-! ## Instructions that put a byte in an operand and keep the flags -/

/-- A byte written to an `r8` operand. -/
def State.setLoc (s : State) (x : Loc8) (v : Byte) : State :=
  match x with
  | .reg r => s.setReg8 r v
  | .atHL => s.setAtHL v

/-- An instruction whose one write is of `v` to an `r8` operand retires and leaves everything else alone. -/
theorem CompletesOn.setLoc {i : Instr} {s : State} {x : Loc8} {v : Byte} {cycles : Nat}
    (h : CompletesOn i s ((s.past i.length).setLoc x v) cycles) :
    ∃ t, exec i s = .next t ∧ OnlyLoc s t x v ∧ t.flags = s.flags ∧ t.sp = s.sp ∧ Quiet s t ∧ Retires i s t cycles := by
  cases x with
  | reg r =>
    obtain ⟨t, ht, hloaded, hregs, hflags, hsp, hmem, hrest⟩ := CompletesOn.load h
    exact ⟨t, ht, onlyLoc_reg_iff.mpr ⟨hloaded, hregs, hmem⟩, hflags, hsp, hrest⟩
  | atHL =>
    obtain ⟨t, ht, hstores, hholds, hregs, hrest⟩ := CompletesOn.store (a := s.hl) h
    exact ⟨t, ht, onlyLoc_atHL_iff.mpr ⟨hstores, hholds, hregs⟩, hrest⟩

/-! ## The families of accumulator rotates, prefixed rotates and shifts, BIT, RES and SET -/

/-- What an accumulator rotate does: its result is the prefixed form's, and Z is as `ACC_ROTATE_Z` has it (R401 to R404). -/
theorem exec_accRotate_completes {i : Instr} {op : ShiftOp} {s : State}
    (h : CompletesOn i s ((s.past i.length).putReg .a (accRotate8 s.cfg op s.a s.flags.c)) 1) :
    ∃ t, exec i s = .next t ∧
      t.a.toNat = shiftNat op s.a.toNat (if s.flags.c then 1 else 0) ∧
      (t.flags.c = true ↔ ShiftsOutOne op s.a.toNat) ∧ t.flags.n = false ∧ t.flags.h = false ∧
      (t.flags.z = true ↔ s.cfg.accRotateZ = .resultZero ∧ t.a = 0) ∧
      SameRegsBut s t [.a] ∧ t.sp = s.sp ∧ SameMem s t ∧ Quiet s t ∧ Retires i s t 1 := by
  obtain ⟨t, ht, ha, hflags, hframe⟩ := h.putA
  refine ⟨t, ht, ?rotated, ?c, ?n, ?h, ?z, hframe⟩
  case rotated =>
    rw [ha]
    exact shiftRes_toNat op s.a s.flags.c
  all_goals rw [hflags]
  case c => exact shiftCarry_iff op s.a
  case n | h => rfl
  case z =>
    rw [ha]
    exact zAcc_iff ..

theorem encode_shift (op : ShiftOp) (x : Loc8) : encode (Instr.shift op x) = [0xCB, opXYZ 0b00 op.index x.index] := by
  cases x with
  | reg r => cases op <;> cases r <;> rfl
  | atHL => cases op <;> rfl

/-- A prefixed rotate or shift puts the operand's rotated byte and its flags in the operand (R405 to R420). -/
theorem exec_shift (op : ShiftOp) (x : Loc8) (s : State) :
    CompletesOn (Instr.shift op x) s
      ((s.past (Instr.shift op x).length).putLoc x (shift8 op (x.value s) s.flags.c)) (x.cycles 2 4) := by
  cases x with
  | reg r => cases op <;> cases r <;> rfl
  | atHL => cases op <;> rfl

/-- What a prefixed rotate, shift or SWAP does, one statement for the eight operations. -/
theorem exec_shift_completes (op : ShiftOp) (x : Loc8) (s : State) :
    ∃ t w, exec (Instr.shift op x) s = .next t ∧ OnlyLoc s t x w ∧
      w.toNat = shiftNat op (x.value s).toNat (if s.flags.c then 1 else 0) ∧
      (t.flags.z = true ↔ w = 0) ∧ t.flags.n = false ∧ t.flags.h = false ∧
      (t.flags.c = true ↔ ShiftsOutOne op (x.value s).toNat) ∧
      t.sp = s.sp ∧ Quiet s t ∧ Retires (Instr.shift op x) s t (x.cycles 2 4) := by
  obtain ⟨t, ht, hloc, hflags, hframe⟩ := (exec_shift op x s).putLoc
  refine ⟨t, _, ht, hloc, shiftRes_toNat op (x.value s) s.flags.c, ?_⟩
  rw [hflags]
  exact ⟨decide_eq_true_iff, rfl, rfl, shiftCarry_iff op (x.value s), hframe⟩

section
variable (b : Fin 8) (x : Loc8) (s : State)

theorem encode_bit : encode (Instr.bit b x) = [0xCB, opXYZ 0b01 (BitVec.ofNat 3 b.val) x.index] := by
  cases x with
  | reg r => fin_cases b <;> cases r <;> rfl
  | atHL => fin_cases b <;> rfl

theorem encode_res : encode (Instr.res b x) = [0xCB, opXYZ 0b10 (BitVec.ofNat 3 b.val) x.index] := by
  cases x with
  | reg r => fin_cases b <;> cases r <;> rfl
  | atHL => fin_cases b <;> rfl

theorem encode_set : encode (Instr.set b x) = [0xCB, opXYZ 0b11 (BitVec.ofNat 3 b.val) x.index] := by
  cases x with
  | reg r => fin_cases b <;> cases r <;> rfl
  | atHL => fin_cases b <;> rfl

/-- BIT writes the flags alone, from the operand's bit and the old flags (R421, R422). -/
theorem exec_bit :
    CompletesOn (Instr.bit b x) s
      { s.past (Instr.bit b x).length with flags := bitFlags b (x.value s) s.flags } (x.cycles 2 3) := by
  cases x with
  | reg r => fin_cases b <;> cases r <;> rfl
  | atHL => fin_cases b <;> rfl

/-- RES puts the operand with the bit cleared in the operand (R423, R424). -/
theorem exec_res :
    CompletesOn (Instr.res b x) s ((s.past (Instr.res b x).length).setLoc x (resBit b (x.value s))) (x.cycles 2 4) := by
  cases x with
  | reg r => fin_cases b <;> cases r <;> rfl
  | atHL => fin_cases b <;> rfl

/-- SET puts the operand with the bit set in the operand (R425, R426). -/
theorem exec_set :
    CompletesOn (Instr.set b x) s ((s.past (Instr.set b x).length).setLoc x (setBit b (x.value s))) (x.cycles 2 4) := by
  cases x with
  | reg r => fin_cases b <;> cases r <;> rfl
  | atHL => fin_cases b <;> rfl

end

end Machine

end Sys2Proof

namespace Sys2Proof.Proofs

open Sys2Proof Sys2Proof.Machine

/-- Settles O49: each puts in A what the prefixed form computes, with Z by the parameter. -/
theorem accumulatorRotates : Obligations.AccumulatorRotates := by
  unfold Obligations.AccumulatorRotates
  refine ⟨rfl, rfl, rfl, rfl, fun s => ?_⟩
  simp only [List.forall_mem_cons]
  exact ⟨exec_accRotate_completes rfl, exec_accRotate_completes rfl, exec_accRotate_completes rfl,
    exec_accRotate_completes rfl, List.forall_mem_nil _⟩

/-- Settles O50: the four rotates are operations of the one prefixed form. -/
theorem prefixedRotates : Obligations.PrefixedRotates := by
  unfold Obligations.PrefixedRotates
  exact fun op x s _ => ⟨encode_shift op x, exec_shift_completes op x s⟩

/-- Settles O51: the three shifts and SWAP are operations of the one prefixed form. -/
theorem prefixedShiftsAndSwap : Obligations.PrefixedShiftsAndSwap := by
  unfold Obligations.PrefixedShiftsAndSwap
  exact fun op x s _ => ⟨encode_shift op x, exec_shift_completes op x s⟩

/-- Settles O52: BIT's one write is of the flags. -/
theorem bitTests : Obligations.BitTests := by
  unfold Obligations.BitTests
  intro b x s
  obtain ⟨t, ht, hflags, hframe⟩ := (exec_bit b x s).putFlags
  refine ⟨encode_bit b x, t, ht, ?_⟩
  rw [hflags]
  exact ⟨rfl, rfl, rfl, rfl, hframe⟩

/-- Settles O53: each puts in the operand the operand with one bit changed, and keeps the flags. -/
theorem bitResetAndSet : Obligations.BitResetAndSet := by
  unfold Obligations.BitResetAndSet
  intro b x s
  obtain ⟨t, ht, hloc, hflags, hsp, hquiet, hretires⟩ := (exec_res b x s).setLoc
  obtain ⟨u, hu, huloc, huflags, husp, huquiet, huretires⟩ := (exec_set b x s).setLoc
  exact ⟨encode_res b x, encode_set b x, t, u, _, _, ht, hu, hloc, huloc, fun j => resBit_getLsbD b j (x.value s),
    fun j => setBit_getLsbD b j (x.value s), hflags, huflags, hsp, husp, hquiet, huquiet, hretires, huretires⟩

end Sys2Proof.Proofs
end

section
/-! PROOFS. Control transfer (R450 to R461): each instruction sets the pc, CALL and RST push the return address before it
and the returns pop it, and a conditional transfer that is not taken only fetches its bytes. -/

namespace Sys2Proof.Machine

/-! ## Transfers that are taken -/

/-- The word `ret` is pushed, and nothing else changes but the pc and what is counted (R105). -/
def PushesReturn (s t : State) (ret : Word) : Prop :=
  t.sp = s.sp - 2 ∧ Stores s t [(s.sp - 1, hi ret), (s.sp - 2, lo ret)] ∧
  Holds s t (s.sp - 1) (hi ret) ∧ Holds s t (s.sp - 2) (lo ret) ∧ SameRegs s t ∧ t.flags = s.flags ∧ Quiet s t

/-- The pc is popped, and nothing else changes but IME, a pending EI and what is counted (R106). -/
def PopsPC (s t : State) : Prop :=
  t.pc = join (s.read8 (s.sp + 1)) (s.read8 s.sp) ∧ t.sp = s.sp + 2 ∧ SameRegs s t ∧ t.flags = s.flags ∧
  SameMem s t ∧ t.halted = s.halted ∧ SameBlock s t

section
variable (s : State)

@[simp] theorem State.popPC_flags : s.popPC.flags = s.flags := rfl
@[simp] theorem State.popPC_mem : s.popPC.mem = s.mem := rfl
@[simp] theorem State.popPC_reg8 (q : Reg8) : s.popPC.reg8 q = s.reg8 q := by cases q <;> rfl

@[simp] theorem State.jump_reg8 (a : Word) (q : Reg8) : (s.jump a).reg8 q = s.reg8 q := by cases q <;> rfl

variable (len n : Nat)

/-- A call pushes the pc past the instruction and leaves everything else but the pc alone (R456, R461). -/
theorem State.call_pushesReturn (a : Word) : PushesReturn s (((s.past len).call a).charge n) (s.pcAfter len) := by
  have hregs : SameRegs (s.past len) ((s.past len).call a) := fun r _ => State.call_reg8 _ a r
  refine ⟨(s.past len).push16_sp (s.pcAfter len), ?stores, (s.past len).push16_holds_hi (s.pcAfter len),
    (s.past len).push16_holds_lo (s.pcAfter len), hregs.of_past_charge n, ?flags,
    (((s.past len).call_dataOnly a).charge n).quiet⟩
  case stores => exact ((s.past len).push16_stores (s.pcAfter len)).of_past_charge n
  case flags => rw [State.charge_flags, State.call_flags, State.past_flags]

/-- A return pops the pc and leaves everything else alone (R458). -/
theorem State.popPC_popsPC : PopsPC s ((s.past len).popPC.charge n) := by
  obtain ⟨⟨-, -, hhalted⟩, hdiv, htima, hfault, hcfg⟩ := ((s.past len).popPC_dataOnly.charge n).quiet
  have hregs : SameRegs (s.past len) (s.past len).popPC := fun r _ => State.popPC_reg8 _ r
  refine ⟨rfl, rfl, hregs.of_past_charge n, ?flags, SameMem.of_mem ?mem hcfg, hhalted, hdiv, htima,
    hfault, hcfg⟩
  case flags => rw [State.charge_flags, State.popPC_flags, State.past_flags]
  case mem => rw [State.charge_mem, State.popPC_mem, State.past_mem]

end

/-- The two control bits that RETI writes are no part of what a return must keep (R460). -/
theorem PopsPC.setControl {s t : State} (h : PopsPC s t) (ime eiPending : Bool) :
    PopsPC s { t with ime := ime, eiPending := eiPending } := by
  obtain ⟨hpc, hsp, hregs, hflags, hmem, hrest⟩ := h
  refine ⟨hpc, hsp, fun r hr => ?regs, hflags, hmem, hrest⟩
  case regs =>
    rw [← hregs r hr]
    cases r <;> rfl

section
variable {i : Instr} {s : State} {len cycles : Nat}

/-- An instruction that jumps to `a` changes nothing else. -/
theorem CompletesOn.jump {a : Word} (h : CompletesOn i s ((s.past len).jump a) cycles) :
    ∃ t, exec i s = .next t ∧ t.pc = a ∧ SameData s t ∧ Quiet s t ∧ Counts i s t cycles := by
  have hregs : SameRegs (s.past len) ((s.past len).jump a) := fun r _ => State.jump_reg8 _ a r
  exact ⟨_, h, rfl, ⟨hregs.of_past_charge _, rfl, rfl, SameMem.of_mem rfl rfl⟩,
    ((State.jump_dataOnly _ a).charge _).quiet, rfl, rfl⟩

/-- An instruction that calls `a` pushes the pc past its bytes, jumps to `a` and changes nothing else. -/
theorem CompletesOn.call {a : Word} (h : CompletesOn i s ((s.past len).call a) cycles) :
    ∃ t, exec i s = .next t ∧ PushesReturn s t (s.pcAfter len) ∧ t.pc = a ∧ Counts i s t cycles :=
  ⟨_, h, s.call_pushesReturn len _ a, rfl, rfl, rfl⟩

/-- An instruction that returns, and no more than that, leaves the control bits alone. -/
theorem CompletesOn.ret (h : CompletesOn i s (s.past len).popPC cycles) :
    ∃ t, exec i s = .next t ∧ PopsPC s t ∧ SameControl s t ∧ Counts i s t cycles :=
  ⟨_, h, s.popPC_popsPC len _, ((State.popPC_dataOnly _).charge _).quiet.1, rfl, rfl⟩

end

/-! ## Conditional transfers -/

theorem State.cond_iff (s : State) (cc : Cond) : s.cond cc = true ↔ CondHolds s cc := by
  cases cc with
  | nz => exact iff_of_eq (Bool.not_eq_true' s.flags.z)
  | nc => exact iff_of_eq (Bool.not_eq_true' s.flags.c)
  | z | c => exact Iff.rfl

/-- When the condition holds `i` completes as `CompletesOn` says, and otherwise it is not taken (R450). -/
def CompletesIf (i : Instr) (cc : Cond) (s u : State) (costTaken costNot : Nat) : Prop :=
  exec i s =
    if s.cond cc then .next (u.charge (costOf s.cfg i.opcode costTaken)) else s.runNotTaken i.length i.opcode costNot

section
variable {i : Instr} {cc : Cond} {s : State} {costTaken costNot : Nat}

theorem CompletesIf.taken {u : State} (h : CompletesIf i cc s u costTaken costNot) (hc : CondHolds s cc) :
    CompletesOn i s u costTaken :=
  h.trans (if_pos ((s.cond_iff cc).mpr hc))

/-- A transfer that is not taken fetches its bytes and counts its cost, and changes nothing else. -/
theorem CompletesIf.notTaken {u : State} (h : CompletesIf i cc s u costTaken costNot) (hc : ¬ CondHolds s cc) :
    ∃ t, exec i s = .next t ∧ SameData s t ∧ Quiet s t ∧ RetiresNotTaken i s t costNot := by
  have hregs : SameRegs (s.past i.length) (s.past i.length) := fun _ _ => rfl
  exact ⟨_, h.trans (if_neg (hc ∘ (s.cond_iff cc).mp)),
    ⟨hregs.of_past_charge _, rfl, rfl, SameMem.of_mem rfl rfl⟩, Quiet.refl s, rfl, rfl, rfl⟩

/-- A conditional jump: where it goes and what it costs depend on the condition, and nothing else changes either way. -/
theorem CompletesIf.jump {len : Nat} {a : Word} (h : CompletesIf i cc s ((s.past len).jump a) costTaken costNot) :
    ∃ t, exec i s = .next t ∧ SameData s t ∧ Quiet s t ∧ (CondHolds s cc → t.pc = a ∧ Counts i s t costTaken) ∧
      (¬ CondHolds s cc → RetiresNotTaken i s t costNot) := by
  by_cases hc : CondHolds s cc
  · obtain ⟨t, ht, hpc, hdata, hquiet, hcounts⟩ := (h.taken hc).jump
    exact ⟨t, ht, hdata, hquiet, fun _ => ⟨hpc, hcounts⟩, absurd hc⟩
  · obtain ⟨t, ht, hdata, hquiet, hretires⟩ := h.notTaken hc
    exact ⟨t, ht, hdata, hquiet, fun hc' => absurd hc' hc, fun _ => hretires⟩

/-- A conditional call: it calls or it leaves the stack alone. -/
theorem CompletesIf.call {len : Nat} {a : Word} (h : CompletesIf i cc s ((s.past len).call a) costTaken costNot) :
    ∃ t, exec i s = .next t ∧
      (CondHolds s cc → PushesReturn s t (s.pcAfter len) ∧ t.pc = a ∧ Counts i s t costTaken) ∧
      (¬ CondHolds s cc → SameData s t ∧ Quiet s t ∧ RetiresNotTaken i s t costNot) := by
  by_cases hc : CondHolds s cc
  · obtain ⟨t, ht, hcalled⟩ := (h.taken hc).call
    exact ⟨t, ht, fun _ => hcalled, absurd hc⟩
  · obtain ⟨t, ht, hpassed⟩ := h.notTaken hc
    exact ⟨t, ht, fun hc' => absurd hc' hc, fun _ => hpassed⟩

/-- A conditional return: it pops the pc or it leaves the stack alone, and leaves the control bits alone either way. -/
theorem CompletesIf.ret {len : Nat} (h : CompletesIf i cc s (s.past len).popPC costTaken costNot) :
    ∃ t, exec i s = .next t ∧ SameControl s t ∧ (CondHolds s cc → PopsPC s t ∧ Counts i s t costTaken) ∧
      (¬ CondHolds s cc → SameData s t ∧ SameBlock s t ∧ RetiresNotTaken i s t costNot) := by
  by_cases hc : CondHolds s cc
  · obtain ⟨t, ht, hpops, hcontrol, hcounts⟩ := (h.taken hc).ret
    exact ⟨t, ht, hcontrol, fun _ => ⟨hpops, hcounts⟩, absurd hc⟩
  · obtain ⟨t, ht, hdata, ⟨hcontrol, hblock⟩, hretires⟩ := h.notTaken hc
    exact ⟨t, ht, hcontrol, fun hc' => absurd hc' hc, fun _ => ⟨hdata, hblock, hretires⟩⟩

end

/-! ## The families `JP cc`, `JR cc`, `CALL cc`, `RET cc` and `RST` -/

section
variable (cc : Cond) (a : Word) (e : Byte) (k : Fin 8)

theorem encode_jp : encode (Instr.jp cc a) = [0b110#3 ++ cc.index ++ 0b010#3, lo a, hi a] := by
  cases cc <;> rfl

theorem encode_jr : encode (Instr.jr cc e) = [0b001#3 ++ cc.index ++ 0b000#3, e] := by
  cases cc <;> rfl

theorem encode_callCC : encode (Instr.callCC cc a) = [0b110#3 ++ cc.index ++ 0b100#3, lo a, hi a] := by
  cases cc <;> rfl

theorem encode_retCC : encode (Instr.retCC cc) = [0b110#3 ++ cc.index ++ 0b000#3] := by
  cases cc <;> rfl

theorem encode_rst : encode (Instr.rst k) = [opXYZ 0b11 (BitVec.ofNat 3 k.val) 0b111] := by
  fin_cases k <;> rfl

variable (s : State)

/-- JP cc goes to its immediate (R452). -/
theorem exec_jp : CompletesIf (Instr.jp cc a) cc s ((s.past 3).jump a) 4 3 := by
  cases cc <;> rfl

/-- JR cc goes to the sum of the pc past its two bytes and the sign-extended displacement (R455). -/
theorem exec_jr :
    CompletesIf (Instr.jr cc e) cc s ((s.past 2).jump (s.pcAfter 2 + sext16 e)) 3 s.cfg.jrCcNotTakenCycles := by
  cases cc <;> rfl

/-- CALL cc calls its immediate (R457). -/
theorem exec_callCC : CompletesIf (Instr.callCC cc a) cc s ((s.past 3).call a) 6 3 := by
  cases cc <;> rfl

/-- RET cc pops the pc (R459). -/
theorem exec_retCC : CompletesIf (Instr.retCC cc) cc s (s.past 1).popPC 5 2 := by
  cases cc <;> rfl

/-- RST calls the address eight times its index (R461). -/
theorem exec_rst : CompletesOn (Instr.rst k) s ((s.past 1).call (BitVec.ofNat 16 (8 * k.val))) 4 := by
  fin_cases k <;> rfl

end

end Sys2Proof.Machine

namespace Sys2Proof.Proofs

open Sys2Proof Sys2Proof.Machine

/-- Settles O54: each form jumps to its immediate or to HL, the conditional ones when their condition holds. -/
theorem absoluteJumps : Obligations.AbsoluteJumps := by
  unfold Obligations.AbsoluteJumps
  exact fun s k => ⟨rfl, rfl, CompletesOn.jump (len := 3) rfl, CompletesOn.jump (len := 1) rfl,
    fun cc => ⟨encode_jp cc k, (exec_jp cc k s).jump⟩⟩

/-- Settles O55: a jump to the pc past both bytes plus the sign-extended displacement, which displaces modulo 65536. -/
theorem relativeJumps : Obligations.RelativeJumps := by
  unfold Obligations.RelativeJumps
  intro s e
  have htarget : IsDisplaced (s.pcAfter 2 + sext16 e) (s.pcAfter 2) e := isDisplaced_add_sext16 _ e
  refine ⟨rfl, ?always, fun cc => ⟨encode_jr cc e, ?onCondition⟩⟩
  case always =>
    obtain ⟨t, ht, hpc, hframe⟩ :=
      CompletesOn.jump (i := .jr_e8 e) (s := s) (len := 2) (a := s.pcAfter 2 + sext16 e) (cycles := 3) rfl
    exact ⟨t, ht, hpc ▸ htarget, hframe⟩
  case onCondition =>
    obtain ⟨t, ht, hdata, hquiet, htaken, hnotTaken⟩ := (exec_jr cc e s).jump
    refine ⟨t, ht, hdata, hquiet, fun hc => ?_, hnotTaken⟩
    obtain ⟨hpc, hcounts⟩ := htaken hc
    exact ⟨hpc ▸ htarget, hcounts⟩

/-- Settles O56: each form calls, pushing the pc past its bytes, CALL cc when its condition holds. -/
theorem callsAndRestarts : Obligations.CallsAndRestarts := by
  unfold Obligations.CallsAndRestarts
  exact fun s => ⟨fun k => ⟨rfl, CompletesOn.call (len := 3) rfl⟩, fun n => ⟨encode_rst n, (exec_rst n s).call⟩,
    fun cc k => ⟨encode_callCC cc k, (exec_callCC cc k s).call⟩⟩

/-- Settles O57: each form pops the pc, RET cc when its condition holds, and RETI writes two control bits besides. -/
theorem returns : Obligations.Returns := by
  unfold Obligations.Returns
  exact fun s => ⟨rfl, rfl, CompletesOn.ret (len := 1) rfl,
    ⟨_, rfl, (s.popPC_popsPC 1 _).setControl true false, rfl, rfl, rfl, rfl⟩,
    fun cc => ⟨encode_retCC cc, (exec_retCC cc s).ret⟩⟩

end Sys2Proof.Proofs
end

section
/-! PROOFS. System instructions and illegal opcodes (R500 to R505): NOP, DI, EI and HALT write control bits alone, and STOP
and the unassigned opcodes fault, which ends the step that fetches them. -/

namespace Sys2Proof.Machine

/-! ## Effects on the control bits alone -/

/-- The two interrupt bits and the two halt bits set to the given values. -/
def State.setControl (s : State) (ime eiPending halted haltBug : Bool) : State :=
  { s with ime := ime, eiPending := eiPending, halted := halted, haltBug := haltBug }

@[simp] theorem State.setControl_reg8 (s : State) (ime eiPending halted haltBug : Bool) (q : Reg8) :
    (s.setControl ime eiPending halted haltBug).reg8 q = s.reg8 q := by
  cases q <;> rfl

section
variable {i : Instr} {s : State} {ime eiPending halted haltBug : Bool} {cycles : Nat}

/-- An instruction that writes control bits alone goes on past its bytes, counts its cost and leaves everything else alone. -/
theorem CompletesOn.setControl
    (h : CompletesOn i s ((s.past i.length).setControl ime eiPending halted haltBug) cycles) :
    ∃ t, exec i s = .next t ∧ t.ime = ime ∧ t.eiPending = eiPending ∧ t.halted = halted ∧ t.haltBug = haltBug ∧
      SameData s t ∧ SameBlock s t ∧ t.pc = s.pcAfter i.length ∧
      t.cycleCounter = s.cycleCounter + costOf s.cfg i.opcode cycles := by
  have hregs : SameRegs (s.past i.length) ((s.past i.length).setControl ime eiPending halted haltBug) :=
    fun q _ => State.setControl_reg8 _ _ _ _ _ q
  exact ⟨_, h, rfl, rfl, rfl, rfl, ⟨hregs.of_past_charge _, rfl, rfl, SameMem.of_mem rfl rfl⟩, ⟨rfl, rfl, rfl, rfl⟩,
    rfl, rfl⟩

/-- As `CompletesOn.setControl`: with the halt bug left consumed, the instruction retires. -/
theorem CompletesOn.setControl_retires
    (h : CompletesOn i s ((s.past i.length).setControl ime eiPending halted false) cycles) :
    ∃ t, exec i s = .next t ∧ t.ime = ime ∧ t.eiPending = eiPending ∧ t.halted = halted ∧ SameData s t ∧
      SameBlock s t ∧ Retires i s t cycles := by
  obtain ⟨t, ht, hime, hei, hhalted, hbug, hdata, hblock, hpc, hcost⟩ := h.setControl
  exact ⟨t, ht, hime, hei, hhalted, hdata, hblock, hpc, hbug, hcost⟩

end

/-! ## NOP, DI, EI and HALT -/

/-- HALT finds the interrupts off, an enabled request pending and the halt bug modelled (R501). -/
def ArmsHaltBug (s : State) : Prop :=
  s.ime = false ∧ s.read8 0xFFFF &&& s.read8 0xFF0F &&& 0x1F ≠ 0 ∧ s.cfg.haltBug = true

section
variable {s : State}

theorem armsHaltBug_iff : (!s.ime && s.pending && s.cfg.haltBug) = true ↔ ArmsHaltBug s := by
  rw [Bool.and_eq_true, Bool.and_eq_true, Bool.not_eq_true', s.pending_iff, and_assoc, ArmsHaltBug]

theorem State.halt_of_armsHaltBug (h : ArmsHaltBug s) : s.halt = s.setControl s.ime s.eiPending s.halted true :=
  if_pos (armsHaltBug_iff.mpr h)

theorem State.halt_of_not_armsHaltBug (h : ¬ ArmsHaltBug s) :
    s.halt = s.setControl s.ime s.eiPending true s.haltBug :=
  if_neg (h ∘ armsHaltBug_iff.mp)

theorem State.enableInterrupts_of_delayed (h : s.cfg.eiDelay = true) :
    s.enableInterrupts = s.setControl s.ime true s.halted s.haltBug :=
  if_pos h

theorem State.enableInterrupts_of_not_delayed (h : s.cfg.eiDelay = false) :
    s.enableInterrupts = s.setControl true s.eiPending s.halted s.haltBug :=
  if_neg (Bool.eq_false_iff.mp h)

end

section
variable (s : State)

/-- NOP leaves the control bits as the fetch does (R500). -/
theorem exec_nop_completes : CompletesOn .nop s ((s.past 1).setControl s.ime s.eiPending s.halted false) 1 := rfl

/-- DI clears IME and drops a pending EI (R503). -/
theorem exec_di_completes : CompletesOn .di s ((s.past 1).setControl false false s.halted false) 1 := rfl

/-- EI acts on the state past its byte (R504). -/
theorem exec_ei_completes : CompletesOn .ei s (s.past 1).enableInterrupts 1 := rfl

/-- HALT acts on the state past its byte, where the halt bug is consumed (R501). -/
theorem exec_halt_completes : CompletesOn .halt s (s.past 1).halt 1 := rfl

end

/-! ## Instructions that fault -/

theorem exec_illegalRow (s : State) : ∀ row ∈ illegalRows, exec row.2 s = .fault (.illegalOpcode row.1 s.pc) := by
  intro row hrow
  fin_cases hrow <;> rfl

theorem decode3_illegalRow {row : Byte × Instr} (h : row ∈ illegalRows) (b1 b2 : Byte) : decode3 row.1 b1 b2 = row.2 := by
  fin_cases h <;> rfl

/-- Whether or not the halt bug is armed, the byte at the pc is the first the decoder reads. -/
theorem State.fetchInstr_of_opcode {s : State} {i : Instr} (h : ∀ b1 b2, decode3 (s.read8 s.pc) b1 b2 = i) :
    s.fetchInstr = i := by
  cases hb : s.haltBug
  · exact (State.fetchInstr_of_no_bug hb).trans (h _ _)
  · exact (State.fetchInstr_of_haltBug hb).trans (h _ _)

@[simp] theorem State.applyPendingEI_pc (s : State) : s.applyPendingEI.pc = s.pc := by
  rcases s.applyPendingEI_cases with ⟨-, e⟩ | ⟨-, e⟩ <;> rw [e]

/-- A call of `step` that meets an instruction that faults, on its address alone, returns the fault and records it. -/
theorem stepCall_of_opcode_faults {s : State} {i : Instr} {f : Word → Fault} (hfault : s.fault = none)
    (hhalted : s.halted = false) (hdecode : ∀ b1 b2, decode3 (s.read8 s.pc) b1 b2 = i)
    (hexec : ∀ t, exec i t = .fault (f t.pc)) : stepCall s = (s.recordFault (f s.pc), .fault (f s.pc)) := by
  have hstep : blockStep s = .fault (f s.pc) := by
    simp [blockStep, hfault, hhalted, State.fetchInstr_of_opcode hdecode, hexec]
  rw [stepCall, hstep]

end Sys2Proof.Machine

namespace Sys2Proof.Proofs

open Sys2Proof Sys2Proof.Machine

/-- Settles O58: each writes control bits alone, EI the one that its delay selects. -/
theorem nopAndInterruptEnableInstructions : Obligations.NopAndInterruptEnableInstructions := by
  unfold Obligations.NopAndInterruptEnableInstructions
  intro s
  refine ⟨rfl, rfl, rfl, ?nop, (exec_di_completes s).setControl_retires, ?ei⟩
  case nop =>
    obtain ⟨t, ht, hime, hei, hhalted, hdata, hblock, hretires⟩ := (exec_nop_completes s).setControl_retires
    exact ⟨t, ht, hdata, ⟨⟨hime, hei, hhalted⟩, hblock⟩, hretires⟩
  case ei =>
    have h := exec_ei_completes s
    cases hd : s.cfg.eiDelay with
    | true =>
      rw [State.enableInterrupts_of_delayed (s := s.past 1) hd] at h
      obtain ⟨t, ht, hime, hei, hframe⟩ := h.setControl_retires
      exact ⟨t, ht, fun _ => ⟨hei, hime⟩, nofun, hframe⟩
    | false =>
      rw [State.enableInterrupts_of_not_delayed (s := s.past 1) hd] at h
      obtain ⟨t, ht, hime, hei, hframe⟩ := h.setControl_retires
      exact ⟨t, ht, nofun, fun _ => ⟨hime, hei⟩, hframe⟩

/-- Settles O59: the fetch changes nothing that HALT's test reads, and consumes a halt bug that HALT does not arm again. -/
theorem haltHaltsOrArmsTheHaltBug : Obligations.HaltHaltsOrArmsTheHaltBug := by
  unfold Obligations.HaltHaltsOrArmsTheHaltBug
  intro s
  refine ⟨rfl, ?_⟩
  have h := exec_halt_completes s
  by_cases harms : ArmsHaltBug s
  · rw [State.halt_of_armsHaltBug (s := s.past 1) harms] at h
    obtain ⟨t, ht, hime, hei, hhalted, hbug, hdata, hblock, hpc, hcost⟩ := h.setControl
    exact ⟨t, ht, fun _ => ⟨hbug, hhalted⟩, absurd harms, hpc, hcost, hime, hei, hdata, hblock⟩
  · rw [State.halt_of_not_armsHaltBug (s := s.past 1) harms] at h
    obtain ⟨t, ht, hime, hei, hhalted, hbug, hdata, hblock, hpc, hcost⟩ := h.setControl
    exact ⟨t, ht, fun harms' => absurd harms' harms, fun _ => ⟨hbug, hhalted⟩, hpc, hcost, hime, hei, hdata, hblock⟩

/-- Settles O60: the byte at the pc alone selects each of these rows, and each faults with its opcode and the pc. -/
theorem stopAndIllegalOpcodesFault : Obligations.StopAndIllegalOpcodesFault := by
  unfold Obligations.StopAndIllegalOpcodesFault
  intro s
  refine ⟨rfl, rfl, rfl, fun row hrow => ⟨encode_illegalRow row hrow, exec_illegalRow s row hrow⟩, ?stop, ?illegal⟩
  case stop =>
    intro hfault hhalted hop
    exact stepCall_of_opcode_faults (i := .stop) hfault hhalted (fun _ _ => hop ▸ rfl) fun _ => rfl
  case illegal =>
    intro row hrow hfault hhalted hop
    exact stepCall_of_opcode_faults hfault hhalted (fun b1 b2 => hop ▸ decode3_illegalRow hrow b1 b2)
      fun t => exec_illegalRow t row hrow

end Sys2Proof.Proofs
end

section
/-! PROOFS. What a call of `step` answers (R600 to R604, R626, R627): the two grounds of a fault, what a faulting call leaves,
and the cost that a completed call counts. -/

namespace Sys2Proof.Machine

/-! ## What an instruction costs (R626) -/

/-- A cost that some rule states: 1 to 6 cycles, or the parameter of a JR that is not taken (R455, R713). -/
def RuleCost (cfg : Config) (n : Nat) : Prop := (1 ≤ n ∧ n ≤ 6) ∨ n = cfg.jrCcNotTakenCycles

/-- From `s` to `t` a rule's cost is counted, unless `CycleCost` replaces it (R10, R627). -/
def Charged (s t : State) : Prop :=
  ∃ opcode cycles, RuleCost s.cfg cycles ∧ (t.cycleCounter = s.cycleCounter + costOf s.cfg opcode cycles ∨
    t.cycleCounter = s.cycleCounter + costNotTaken s.cfg opcode cycles)

/-- The instruction completes, with its cost counted. -/
def CompletesCharged (s : State) (r : Result) : Prop := ∃ t, r = .next t ∧ Charged s t

section
variable {s : State}

theorem Charged.le {t : State} (h : Charged s t) : s.cycleCounter ≤ t.cycleCounter := by
  obtain ⟨_, _, -, e | e⟩ := h <;> omega

/-- With the costs of the rules, at least 1 cycle is counted and at most CALL's 6 or those of a JR not taken. -/
theorem Charged.bounds {t : State} (h : Charged s t) (hcosts : CostsPositive s.cfg) :
    s.cycleCounter < t.cycleCounter ∧ t.cycleCounter ≤ s.cycleCounter + max 6 s.cfg.jrCcNotTakenCycles := by
  obtain ⟨hrows, -, hjr⟩ := hcosts
  obtain ⟨opcode, cycles, hrule, e⟩ := h
  rw [costOf_of_no_rows hrows, costNotTaken_of_no_rows hrows, or_self] at e
  rcases hrule with ⟨hpos, hle⟩ | rfl <;> omega

/-- An instruction that counts one of the rules' fixed costs. -/
theorem CompletesCharged.next {t : State} {opcode cycles : Nat}
    (h : t.cycleCounter = s.cycleCounter + costOf s.cfg opcode cycles) (hcost : 1 ≤ cycles ∧ cycles ≤ 6) :
    CompletesCharged s (.next t) :=
  ⟨t, rfl, opcode, cycles, .inl hcost, .inl h⟩

/-- An instruction that runs counts its cost if its effect counts nothing. -/
theorem CompletesCharged.run {len opcode cycles : Nat} {effect : State → State} (hcost : 1 ≤ cycles ∧ cycles ≤ 6)
    (heffect : ∀ u, (effect u).cycleCounter = u.cycleCounter) : CompletesCharged s (s.run len opcode cycles effect) :=
  .next (congrArg (· + costOf s.cfg opcode cycles) (heffect (s.past len))) hcost

theorem CompletesCharged.runNotTaken {len opcode cycles : Nat} (hcost : RuleCost s.cfg cycles) :
    CompletesCharged s (s.runNotTaken len opcode cycles) :=
  ⟨_, rfl, opcode, cycles, hcost, .inr rfl⟩

/-- A conditional transfer completes either way. -/
theorem CompletesCharged.ite {r r' : Result} {p : Prop} [Decidable p] (h : CompletesCharged s r)
    (h' : CompletesCharged s r') : CompletesCharged s (if p then r else r') := by
  split
  · exact h
  · exact h'

end

@[simp] theorem State.halt_cycleCounter (s : State) : s.halt.cycleCounter = s.cycleCounter := by
  rcases s.halt_cases with ⟨-, e⟩ | e <;> rw [e]

@[simp] theorem State.enableInterrupts_cycleCounter (s : State) : s.enableInterrupts.cycleCounter = s.cycleCounter := by
  rcases s.enableInterrupts_cases with ⟨-, e⟩ | e <;> rw [e]

/-- Every instruction but STOP and the unassigned opcodes completes, its cost one that the rules state. -/
theorem exec_completesCharged {i : Instr} (hstop : i ≠ .stop) (hrow : i ∉ illegalRows.map Prod.snd) (s : State) :
    CompletesCharged s (exec i s) := by
  cases i with
  | stop => exact absurd rfl hstop
  | illegal_d3 | illegal_db | illegal_dd | illegal_e3 | illegal_e4 | illegal_eb | illegal_ec | illegal_ed | illegal_f4
  | illegal_fc | illegal_fd => exact absurd (by decide) hrow
  | jp_nz_a16 | jp_z_a16 | jp_nc_a16 | jp_c_a16 | call_nz_a16 | call_z_a16 | call_nc_a16 | call_c_a16 | ret_nz | ret_z
  | ret_nc | ret_c => exact .ite (.next rfl (by decide)) (.runNotTaken (.inl (by decide)))
  | jr_nz_e8 | jr_z_e8 | jr_nc_e8 | jr_c_e8 => exact .ite (.next rfl (by decide)) (.runNotTaken (.inr rfl))
  | halt => exact .run (cycles := 1) (by decide) State.halt_cycleCounter
  | ei => exact .run (cycles := 1) (by decide) State.enableInterrupts_cycleCounter
  | _ => exact .next rfl (by decide)

/-! ## The opcodes that fault (R603, R604) -/

/-- The opcode `op`, fetched at `pc`, raises `f`. -/
def OpcodeFaults (op : Byte) (pc : Word) (f : Fault) : Prop :=
  (op ∈ illegalRows.map Prod.fst ∧ f = .illegalOpcode op pc) ∨ (op = 0x10 ∧ f = .unsupported 0x10 pc)

theorem illegalRow_not_wellFormed : ∀ row ∈ illegalRows, row.2.wellFormed = false := by decide

theorem eq_of_decode3_eq_stop {b0 b1 b2 : Byte} (h : decode3 b0 b1 b2 = .stop) : b0 = 0x10 := by
  by_contra hne
  have hbytes := congrArg List.head? (encode_decode3 hne b1 b2)
  rw [h, List.head?_take, if_neg (lengthOf_pos b0).ne'] at hbytes
  exact hne (Option.some.inj hbytes).symm

theorem opcodeFaults_iff_of_illegal {op : Byte} (h : op ∈ illegalRows.map Prod.fst) (pc : Word) (f : Fault) :
    OpcodeFaults op pc f ↔ f = .illegalOpcode op pc := by
  have hne : op ≠ 0x10 := fun e => absurd (e ▸ h) (by decide)
  simp only [OpcodeFaults, h, hne, true_and, false_and, or_false]

theorem opcodeFaults_stop_iff (pc : Word) (f : Fault) : OpcodeFaults 0x10 pc f ↔ f = .unsupported 0x10 pc := by
  have hlegal : (0x10 : Byte) ∉ illegalRows.map Prod.fst := by decide
  simp only [OpcodeFaults, hlegal, true_and, false_and, false_or]

/-- Any opcode but STOP and the unassigned ones completes, whatever follows it. -/
theorem exec_decode3_completes {b0 : Byte} (hstop : b0 ≠ 0x10) (hlegal : b0 ∉ illegalRows.map Prod.fst) (b1 b2 : Byte)
    (s : State) : ∃ t, exec (decode3 b0 b1 b2) s = .next t := by
  have hrow : decode3 b0 b1 b2 ∉ illegalRows.map Prod.snd := fun h => by
    obtain ⟨row, hrow, e⟩ := List.mem_map.mp h
    exact hlegal (mem_illegalRows_of_decode3_not_wellFormed (e ▸ illegalRow_not_wellFormed row hrow))
  obtain ⟨t, ht, -⟩ := exec_completesCharged (hstop ∘ eq_of_decode3_eq_stop) hrow s
  exact ⟨t, ht⟩

/-- Executing what begins with `b0` faults exactly when `b0` is STOP or unassigned. -/
theorem exec_decode3_fault_iff (b0 b1 b2 : Byte) (s : State) (f : Fault) :
    exec (decode3 b0 b1 b2) s = .fault f ↔ OpcodeFaults b0 s.pc f := by
  by_cases hillegal : b0 ∈ illegalRows.map Prod.fst
  · rw [opcodeFaults_iff_of_illegal hillegal]
    obtain ⟨row, hrow, rfl⟩ := List.mem_map.mp hillegal
    rw [decode3_illegalRow hrow, exec_illegalRow s row hrow, Host.Outcome.fault.injEq, eq_comm]
  · by_cases hstop : b0 = 0x10
    · rw [hstop, opcodeFaults_stop_iff, show exec (decode3 0x10 b1 b2) s = .fault (.unsupported 0x10 s.pc) from rfl,
        Host.Outcome.fault.injEq, eq_comm]
    · obtain ⟨t, ht⟩ := exec_decode3_completes hstop hillegal b1 b2 s
      simp only [ht, OpcodeFaults, hillegal, hstop, false_and, or_false, reduceCtorEq]

/-- The first byte fetched is the one at the pc, with the halt bug armed too. -/
theorem exec_fetchInstr_fault_iff (s : State) (f : Fault) :
    exec s.fetchInstr s = .fault f ↔ OpcodeFaults (s.read8 s.pc) s.pc f := by
  cases hb : s.haltBug
  · rw [State.fetchInstr_of_no_bug hb, exec_decode3_fault_iff]
  · rw [State.fetchInstr_of_haltBug hb, exec_decode3_fault_iff]

@[simp] theorem State.applyPendingEI_read8 (s : State) (a : Word) : s.applyPendingEI.read8 a = s.read8 a := by
  rcases s.applyPendingEI_cases with ⟨-, e⟩ | ⟨-, e⟩ <;> rw [e]
  rfl

/-! ## The step -/

theorem step_of_fault {s : State} {f : Fault} (h : s.fault = some f) : step s = .fault f := by
  simp [step, blockStep, h]

/-- A step faults on a fault that is recorded, or on the opcode of a running core. -/
theorem step_fault_iff (s : State) (f : Fault) :
    step s = .fault f ↔ s.fault = some f ∨
      (s.fault = none ∧ s.halted = false ∧ OpcodeFaults (s.read8 s.pc) s.pc f) := by
  have hexec := exec_fetchInstr_fault_iff s.applyPendingEI f
  rw [State.applyPendingEI_read8, State.applyPendingEI_pc] at hexec
  rw [step]
  rcases blockStep_cases s with ⟨g, hf, e⟩ | ⟨hf, hh, e⟩ | ⟨hf, hh, hrun⟩
  · simp [e, hf]
  · simp [e, hf, hh]
  · rcases hrun with ⟨t, he, e⟩ | ⟨g, he, e⟩ | ⟨r, he, e⟩ <;>
      (rw [he] at hexec; simp [e, hf, hh, ← hexec])

theorem stepCall_fault_iff (s t : State) (f : Fault) :
    stepCall s = (t, .fault f) ↔ step s = .fault f ∧ t = s.recordFault f := by
  rw [stepCall, step]
  cases blockStep s with
  | next u => simp
  | fault g =>
    simp only [Prod.mk.injEq, StepReturn.fault.injEq, Host.Outcome.fault.injEq]
    constructor <;> (rintro ⟨rfl, rfl⟩; exact ⟨rfl, rfl⟩)
  | refused r => simp

/-- A fault sticks: with it recorded, a call returns it and changes nothing (R602). -/
theorem stepCall_of_fault {s : State} {f : Fault} (h : s.fault = some f) : stepCall s = (s, .fault f) := by
  refine (stepCall_fault_iff s s f).mpr ⟨step_of_fault h, ?_⟩
  rw [State.recordFault, ← h]

theorem stepCall_ok_iff (s t : State) (n : Nat) :
    stepCall s = (t, .ok n) ↔ step s = .next t ∧ n = t.cycleCounter - s.cycleCounter := by
  rw [stepCall, step]
  cases blockStep s with
  | next u =>
    simp only [Prod.mk.injEq, StepReturn.ok.injEq, Host.Outcome.next.injEq]
    constructor <;> (rintro ⟨rfl, rfl⟩; exact ⟨rfl, rfl⟩)
  | fault f => simp
  | refused r => simp

/-- A reset that succeeds records no fault (R702). -/
theorem State.hostReset_fault {s u : State} {image : Option (List Byte)} (h : s.hostReset image = .ok u) :
    u.fault = none := by
  unfold State.hostReset at h
  split at h
  · cases h
  · split at h
    · cases h
    · cases h
      rw [State.writeList_fault, State.resetOver]

/-! ## What a step counts -/

/-- Interrupt service counts at most the cost of a dispatch. -/
theorem State.serviceInterrupts_cycleCounter (s : State) :
    s.cycleCounter ≤ s.serviceInterrupts.cycleCounter ∧
      s.serviceInterrupts.cycleCounter ≤ s.cycleCounter + s.cfg.intDispatchCycles := by
  rcases s.serviceInterrupts_cases with ⟨-, e⟩ | ⟨i, -, ⟨-, e⟩ | ⟨-, e⟩⟩ <;> rw [e]
  · omega
  · simp
  · simp

@[simp] theorem State.wake_cycleCounter (s : State) : s.wake.cycleCounter = s.cycleCounter := by
  rcases s.wake_cases with e | ⟨-, -, e⟩ <;> rw [e]

/-- The end of a step counts at most the cost of a dispatch (R615). -/
theorem State.endStep_cycleCounter (s : State) (c : Nat) :
    s.cycleCounter ≤ (s.endStep c).cycleCounter ∧
      (s.endStep c).cycleCounter ≤ s.cycleCounter + s.cfg.intDispatchCycles := by
  have h := (s.timerUpdate c).wake.serviceInterrupts_cycleCounter
  rwa [State.wake_cycleCounter, State.timerUpdate_cycleCounter, (s.timerUpdate c).wake_fault_cfg.2,
    State.timerUpdate_cfg] at h

theorem exec_cfg {i : Instr} {s t : State} (h : exec i s = .next t) : t.cfg = s.cfg := by
  obtain ⟨⟨-, -, -, hcfg⟩, -⟩ := Proofs.noInstructionTouchesTheBlockOrStrayControlBits i s t h
  exact hcfg

@[simp] theorem State.applyPendingEI_cfg (s : State) : s.applyPendingEI.cfg = s.cfg := by
  rcases s.applyPendingEI_cases with ⟨-, e⟩ | ⟨-, e⟩ <;> rw [e]

/-- An instruction that completes is one that counts a rule's cost. -/
theorem exec_charged {i : Instr} {s t : State} (h : exec i s = .next t) : Charged s t := by
  have hstop : i ≠ .stop := by rintro rfl; exact nomatch h
  have hrow : i ∉ illegalRows.map Prod.snd := fun hi => by
    obtain ⟨row, hrow, rfl⟩ := List.mem_map.mp hi
    exact nomatch (exec_illegalRow s row hrow).symm.trans h
  obtain ⟨u, hu, hcharged⟩ := exec_completesCharged hstop hrow s
  cases hu.symm.trans h
  exact hcharged

/-- A completed step ends a state `u` that counts the idle cycles of a halted core or the cost of the instruction. -/
theorem step_next_cases {s t : State} (h : step s = .next t) :
    ∃ u c, t = u.endStep c ∧ u.cfg = s.cfg ∧
      (u.cycleCounter = s.cycleCounter + s.cfg.haltIdleCycles ∨ Charged s u) := by
  rw [step] at h
  rcases blockStep_cases s with ⟨f, -, e⟩ | ⟨-, -, e⟩ | ⟨-, -, ⟨u, he, e⟩ | ⟨f, -, e⟩ | ⟨r, -, e⟩⟩ <;> rw [e] at h
  · cases h
  · cases h
    exact ⟨s.idle, _, rfl, rfl, .inl rfl⟩
  · cases h
    have hcharged := exec_charged he
    rw [Charged, State.applyPendingEI_cfg, State.applyPendingEI_cycleCounter] at hcharged
    exact ⟨u, _, rfl, (exec_cfg he).trans s.applyPendingEI_cfg, .inr hcharged⟩
  · cases h
  · cases h

theorem step_cfg {s t : State} (h : step s = .next t) : t.cfg = s.cfg := by
  obtain ⟨u, c, rfl, hcfg, -⟩ := step_next_cases h
  exact (u.endStep_fault_cfg c).2.trans hcfg

/-- A step takes no cycle back. -/
theorem step_cycleCounter_le {s t : State} (h : step s = .next t) : s.cycleCounter ≤ t.cycleCounter := by
  obtain ⟨u, c, rfl, -, hidle | hcharged⟩ := step_next_cases h
  · have := u.endStep_cycleCounter c
    omega
  · exact hcharged.le.trans (u.endStep_cycleCounter c).1

/-- With the costs of the rules a step counts at least 1 cycle, and no more than the largest cost. -/
theorem step_cycleCounter_bounds {s t : State} (hcosts : CostsPositive s.cfg) (h : step s = .next t) :
    s.cycleCounter < t.cycleCounter ∧ t.cycleCounter ≤ s.cycleCounter + maxStepCost s.cfg := by
  have ⟨_, hidlePos, _⟩ := hcosts
  obtain ⟨u, c, rfl, hcfg, hu⟩ := step_next_cases h
  have hend := u.endStep_cycleCounter c
  rw [hcfg] at hend
  rw [maxStepCost]
  rcases hu with hidle | hcharged
  · omega
  · have hbounds := hcharged.bounds hcosts
    omega

end Sys2Proof.Machine

namespace Sys2Proof.Proofs

open Sys2Proof Sys2Proof.Machine

/-- Settles O8: every opcode but STOP and the unassigned ones completes, and a halted core fetches none. -/
theorem stepFaultsExactlyOnIllegalAndStop : Obligations.StepFaultsExactlyOnIllegalAndStop := by
  unfold Obligations.StepFaultsExactlyOnIllegalAndStop
  exact fun s f => ⟨fun h => congrArg Prod.fst ((stepCall_fault_iff s _ f).mpr ⟨h, rfl⟩), step_fault_iff s f⟩

/-- Settles O9: a faulting call records the fault, and a recorded fault is returned at once. -/
theorem faultingStepSetsOnlyTheFaultAndSticks : Obligations.FaultingStepSetsOnlyTheFaultAndSticks := by
  unfold Obligations.FaultingStepSetsOnlyTheFaultAndSticks
  intro s t f h
  obtain ⟨-, rfl⟩ := (stepCall_fault_iff s t f).mp h
  exact ⟨rfl, stepCall_of_fault (s.recordFault_fault f), fun _ _ => State.hostReset_fault⟩

/-- Settles O10: a step takes no cycle back, so the returned difference is what was added. -/
theorem stepReturnsTheCyclesItCounts : Obligations.StepReturnsTheCyclesItCounts := by
  unfold Obligations.StepReturnsTheCyclesItCounts
  intro s t n h
  obtain ⟨hstep, rfl⟩ := (stepCall_ok_iff s t n).mp h
  exact ⟨hstep, (Nat.add_sub_cancel' (step_cycleCounter_le hstep)).symm⟩

end Sys2Proof.Proofs
end

section
/-! PROOFS. Interrupts (R607 to R618): which source is taken, what taking it changes, and the step of a halted core. -/

namespace Sys2Proof.Machine

/-! ## The source that is taken (R610, R611) -/

theorem firstReady_eq_some_iff (ie fl : Byte) (i : Fin 5) :
    firstReady ie fl = some i ↔ sourceReady ie fl i = true ∧ ∀ j < i, ¬ sourceReady ie fl j = true :=
  List.find?_ofFn_eq_some_of_injective (f := id) Function.injective_id

theorem firstReady_eq_none_iff (ie fl : Byte) : firstReady ie fl = none ↔ ∀ i, ¬ sourceReady ie fl i = true := by
  rw [firstReady, List.find?_eq_none]
  exact ⟨fun h i => h i (by fin_cases i <;> decide), fun h i _ => h i⟩

theorem sourceReady_iff (ie fl : Byte) (i : Fin 5) :
    sourceReady ie fl i = true ↔ ie.getLsbD i.val = true ∧ fl.getLsbD i.val = true :=
  Bool.and_eq_true_iff

theorem State.readySource_eq_some_iff (s : State) (i : Fin 5) :
    s.readySource = some i ↔ s.ime = true ∧ sourceReady s.regIE s.regIF i = true ∧
      ∀ j < i, ¬ sourceReady s.regIE s.regIF j = true := by
  rw [State.readySource, ← firstReady_eq_some_iff]
  cases s.ime <;> simp

theorem State.readySource_eq_none_iff (s : State) :
    s.readySource = none ↔ s.ime = false ∨ ∀ i, ¬ sourceReady s.regIE s.regIF i = true := by
  rw [State.readySource, ← firstReady_eq_none_iff]
  cases s.ime <;> simp

/-- The mask 0x1F keeps the bits of the five sources. -/
theorem and_sourceMask_eq_zero_iff (v : Byte) : v &&& 0x1F = 0 ↔ ∀ i : Fin 5, v.getLsbD i.val = false := by
  have hmask : ∀ k < 8, (0x1F#8).getLsbD k = decide (k < 5) := by decide
  constructor
  · intro h i
    have hbit := congrArg (fun w => w.getLsbD i.val) h
    simpa [hmask i.val (by omega)] using hbit
  · intro h
    refine BitVec.eq_of_getLsbD_eq fun k hk => ?_
    by_cases hk5 : k < 5
    · simp [h ⟨k, hk5⟩]
    · simp [hmask k hk, hk5]

/-- The wake test asks whether some source is ready (R618). -/
theorem State.pending_iff_exists_ready (s : State) :
    s.pending = true ↔ ∃ i, sourceReady s.regIE s.regIF i = true := by
  rw [State.pending, bne_iff_ne, ne_eq, and_sourceMask_eq_zero_iff, not_forall]
  simp only [BitVec.getLsbD_and, Bool.not_eq_false, sourceReady]

/-- A source is taken where IME is 1 and some request is pending and enabled. -/
theorem State.exists_readySource {s : State} (hime : s.ime = true) (h : s.pending = true) : ∃ i, s.readySource = some i := by
  refine Option.ne_none_iff_exists'.mp fun hnone => ?_
  obtain ⟨i, hi⟩ := s.pending_iff_exists_ready.mp h
  rcases s.readySource_eq_none_iff.mp hnone with hime' | hnot
  · exact nomatch hime.symm.trans hime'
  · exact hnot i hi

/-! ## Interrupt service (R612, R615) -/

theorem State.serviceInterrupts_of_none {s : State} (h : s.readySource = none) : s.serviceInterrupts = s := by
  rw [State.serviceInterrupts, h]

theorem State.serviceInterrupts_of_some {s : State} {i : Fin 5} (h : s.readySource = some i) :
    s.serviceInterrupts = if s.cfg.intDispatchCycles = 0 then s.takeInterrupt i
      else ((s.takeInterrupt i).charge s.cfg.intDispatchCycles).timerUpdate s.cfg.intDispatchCycles := by
  rcases s.serviceInterrupts_cases with ⟨hnone, -⟩ | ⟨j, hj, hcost⟩
  · exact nomatch h.symm.trans hnone
  · cases h.symm.trans hj
    rcases hcost with ⟨hzero, e⟩ | ⟨hpos, e⟩
    · rw [e, if_pos hzero]
    · rw [e, if_neg hpos.ne']

theorem State.serviceInterrupts_of_no_ime {s : State} (h : s.ime = false) : s.serviceInterrupts = s :=
  State.serviceInterrupts_of_none (s.readySource_eq_none_iff.mpr (.inl h))

/-- A dispatch clears IME, and the timers that it runs do not set it. -/
theorem State.serviceInterrupts_ime_of_some {s : State} {i : Fin 5} (h : s.readySource = some i) :
    s.serviceInterrupts.ime = false := by
  rw [State.serviceInterrupts_of_some h]
  split
  · exact s.takeInterrupt_ime i
  · rw [State.timerUpdate_ime, State.charge_ime, State.takeInterrupt_ime]

theorem State.takeInterrupt_stores (s : State) (i : Fin 5) :
    Stores s (s.takeInterrupt i) [(addrIF, s.regIF &&& ~~~((1 : Byte) <<< i.val)), (s.sp - 1, hi s.pc),
      (s.sp - 2, lo s.pc)] :=
  Stores.of_mem (s.takeInterrupt_mem i) (s.takeInterrupt_cfg i)

/-! ## The step of a halted core (R601, R618) -/

/-- The state in which a halted core makes the wake test: the idle cycles are counted and the timers have run with them. -/
def State.idled (s : State) : State := (s.charge s.cfg.haltIdleCycles).timerUpdate s.cfg.haltIdleCycles

section
variable {s : State} (hfault : s.fault = none) (hhalted : s.halted = true)
include hfault hhalted

theorem step_of_halted : step s = .next s.idled.wake.serviceInterrupts := by
  simp [step, blockStep, hfault, hhalted, State.endStep, State.idle, State.idled]

/-- With no enabled request pending a halted core stays halted, and no source is ready. -/
theorem step_of_halted_not_pending (h : ¬ s.idled.pending = true) : step s = .next s.idled := by
  have hwake : s.idled.wake = s.idled := by simp [State.wake, h]
  have hready : s.idled.readySource = none :=
    s.idled.readySource_eq_none_iff.mpr (.inr fun i hi => h (s.idled.pending_iff_exists_ready.mpr ⟨i, hi⟩))
  rw [step_of_halted hfault hhalted, hwake, State.serviceInterrupts_of_none hready]

theorem step_of_halted_pending (h : s.idled.pending = true) :
    step s = .next ({ s.idled with halted := false } : State).serviceInterrupts := by
  have hidled : s.idled.halted = true := by rw [State.idled, State.timerUpdate_halted, State.charge_halted, hhalted]
  have hwake : s.idled.wake = { s.idled with halted := false } := by simp [State.wake, h, hidled]
  rw [step_of_halted hfault hhalted, hwake]

end

end Sys2Proof.Machine

namespace Sys2Proof.Proofs

open Sys2Proof Sys2Proof.Machine

/-- Settles O16: the search goes through the sources in order. -/
theorem lowestReadySourceWins : Obligations.LowestReadySourceWins := by
  unfold Obligations.LowestReadySourceWins
  intro s
  simp only [State.readySource_eq_some_iff, State.readySource_eq_none_iff, sourceReady_iff, and_assoc]
  exact ⟨fun _ => Iff.rfl, Iff.rfl⟩

/-- Settles O17: a dispatch clears IME, without which no source is taken. -/
theorem secondServiceTakesNothing : Obligations.SecondServiceTakesNothing := by
  unfold Obligations.SecondServiceTakesNothing
  intro s i h
  have hime := State.serviceInterrupts_ime_of_some h
  exact ⟨hime, State.serviceInterrupts_of_no_ime hime⟩

/-- Settles O18: each vector is computed from the number of its source. -/
theorem vectorsAreFixed : Obligations.VectorsAreFixed := by
  unfold Obligations.VectorsAreFixed
  simp only [State.takeInterrupt_pc]
  exact fun _ => by decide

/-- Settles O15: `first` is what the search finds; the three writes of an entry are those of IF and of a push. -/
theorem interruptEntryEffect : Obligations.InterruptEntryEffect := by
  unfold Obligations.InterruptEntryEffect
  intro s ready first
  have hfirst (i : Fin 5) : first i ↔ s.readySource = some i := by
    simp only [first, ready, and_assoc, (lowestReadySourceWins s).1 i]
  refine ⟨fun hnone => ?none, fun i => ⟨fun h => ?taken, fun h hagree => ?haltBug, rfl, s.takeInterrupt_sp i, rfl, rfl, rfl,
    rfl, s.takeInterrupt_stores i, fun hb a => State.takeInterrupt_read8 hb i a, ?regs, rfl, ⟨rfl, rfl, rfl, rfl⟩, rfl⟩⟩
  case none =>
    refine State.serviceInterrupts_of_none (Option.eq_none_iff_forall_ne_some.mpr fun i hi => ?_)
    exact hnone i ((hfirst i).mpr hi)
  case taken => exact State.serviceInterrupts_of_some ((hfirst i).mp h)
  case haltBug =>
    obtain ⟨-, -, hbug⟩ := hagree
    refine Bool.eq_false_iff.mpr fun hset => ?_
    obtain ⟨hime, -⟩ := hbug hset
    exact nomatch h.1.symm.trans hime
  case regs => exact fun q _ => s.takeInterrupt_reg8 i q

/-- Settles O11: the wake test asks for a ready source, and interrupt service finds one exactly where IME is 1. -/
theorem haltedStepIdlesAndWakes : Obligations.HaltedStepIdlesAndWakes := by
  unfold Obligations.HaltedStepIdlesAndWakes
  intro s hfault hhalted u wakes w
  have hpending : s.idled.pending = true ↔ wakes := s.idled.pending_iff
  have hime : w.ime = s.ime := State.timerUpdate_ime _ _
  have hcfg : w.cfg = s.cfg := State.timerUpdate_cfg _ _
  have hwoken (h : wakes) : step s = .next w.serviceInterrupts :=
    step_of_halted_pending hfault hhalted (hpending.mpr h)
  refine ⟨State.timerUpdate_pc _ _, State.timerUpdate_ime _ _, State.timerUpdate_cycleCounter _ _,
    fun h => ⟨step_of_halted_not_pending hfault hhalted (h ∘ hpending.mp), ?halted⟩, hwoken, fun h hoff => ?masked,
    fun h hon => ?taken⟩
  case halted => rw [State.timerUpdate_halted, State.charge_halted, hhalted]
  case masked => rw [hwoken h, State.serviceInterrupts_of_no_ime (hime.trans hoff)]
  case taken =>
    obtain ⟨i, hi⟩ := State.exists_readySource (s := w) (hime.trans hon) (hpending.mpr h)
    exact ⟨i, hi, by rw [hwoken h, State.serviceInterrupts_of_some hi, hcfg]⟩

end Sys2Proof.Proofs
end

section
/-! PROOFS. The timers (R620 to R625): the divider and the programmable counter case by case, and all that they may write. -/

namespace Sys2Proof.Machine

/-! ## Frames of memory -/

theorem SameMemBut.refl (s : State) (as : List Word) : SameMemBut s s as := fun _ _ _ => rfl

theorem SameMemBut.mono {s t : State} {as bs : List Word} (h : SameMemBut s t as) (hsub : as ⊆ bs) : SameMemBut s t bs :=
  fun hb a ha => h hb a fun hmem => ha (hsub hmem)

theorem SameMemBut.trans {s t u : State} {as bs : List Word} (h : SameMemBut s t as) (hcfg : t.cfg = s.cfg)
    (h' : SameMemBut t u bs) : SameMemBut s u (as ++ bs) := by
  intro hb a ha
  obtain ⟨has, hbs⟩ := not_or.mp (List.mem_append.not.mp ha)
  rw [h' (by rwa [hcfg]) a hbs, h hb a has]

/-- A byte counts up modulo 256 (R12). -/
theorem ofNat_toNat_succ (v : Byte) : BitVec.ofNat 8 (v.toNat + 1) = v + 1 := by
  rw [BitVec.ofNat_add, BitVec.ofNat_toNat, BitVec.setWidth_eq]
  rfl

/-! ## The divider (R621) -/

section
variable {s : State} {c : Nat}

theorem State.dividerUpdate_of_pos (h : 0 < s.divCounter - (c : Int)) :
    s.dividerUpdate c = { s with divCounter := s.divCounter - c } :=
  if_neg (not_le.mpr h)

theorem State.dividerUpdate_of_expired (h : s.divCounter - (c : Int) ≤ 0) :
    s.dividerUpdate c = { s with divCounter := (s.cfg.divPeriod : Int) }.tickDIV :=
  if_pos h

theorem State.dividerUpdate_stores (h : s.divCounter - (c : Int) ≤ 0) :
    Stores s (s.dividerUpdate c) [(addrDIV, s.regDIV + 1)] := by
  rw [State.dividerUpdate_of_expired h]
  exact Stores.of_mem rfl rfl

theorem State.dividerUpdate_holds (h : s.divCounter - (c : Int) ≤ 0) :
    Holds s (s.dividerUpdate c) addrDIV (s.regDIV + 1) := by
  rw [State.dividerUpdate_of_expired h]
  exact fun hb => State.write8_read8_same (s := { s with divCounter := (s.cfg.divPeriod : Int) }) hb addrDIV _

end

theorem State.dividerUpdate_sameMemBut (s : State) (c : Nat) : SameMemBut s (s.dividerUpdate c) [addrDIV] := by
  rcases lt_or_ge 0 (s.divCounter - (c : Int)) with h | h
  · rw [State.dividerUpdate_of_pos h]
    exact SameMemBut.refl s _
  · exact (State.dividerUpdate_stores h).2

/-! ## One advance of TIMA (R623, R624) -/

section
variable {s : State}

theorem State.tickTIMA_of_ne (h : s.regTIMA ≠ 0xFF) : s.tickTIMA = s.writes [(addrTIMA, s.regTIMA + 1)] :=
  if_neg h

/-- From 0xFF it is loaded from TMA, and then the timer request is set in IF. -/
theorem State.tickTIMA_of_overflow (h : s.regTIMA = 0xFF) :
    s.tickTIMA = s.writes [(addrTIMA, s.regTMA), (addrIF, (s.write8 addrTIMA s.regTMA).regIF ||| 0x04)] :=
  if_pos h

/-- On FlatRAM, what a byte reads as after an overflow: the write of TIMA does not meet IF. -/
theorem State.tickTIMA_read8_of_overflow (hb : s.cfg.memoryBus = .flatRAM) (h : s.regTIMA = 0xFF) (k : Word) :
    s.tickTIMA.read8 k = if k = addrIF then s.regIF ||| 0x04 else if k = addrTIMA then s.regTMA else s.read8 k := by
  have hif : (s.write8 addrTIMA s.regTMA).regIF = s.regIF := by
    rw [State.regIF, State.write8_read8 hb, if_neg (by decide), State.regIF]
  rw [State.tickTIMA_of_overflow h, State.writes_cons, State.writes_cons, State.writes_nil,
    State.write8_read8 (s := s.write8 addrTIMA s.regTMA) hb, State.write8_read8 hb, hif]

end

/-- One advance of TIMA changes nothing but memory. -/
theorem State.tickTIMA_onlyMem (s : State) : { s.tickTIMA with mem := s.mem } = s := by
  by_cases h : s.regTIMA = 0xFF
  · rw [State.tickTIMA_of_overflow h]
    exact s.writes_only _
  · rw [State.tickTIMA_of_ne h]
    exact s.writes_only _

theorem State.tickTIMA_sameMemBut (s : State) : SameMemBut s s.tickTIMA [addrTIMA, addrIF] := by
  by_cases h : s.regTIMA = 0xFF
  · rw [State.tickTIMA_of_overflow h]
    exact (Stores.of_mem rfl rfl).2
  · rw [State.tickTIMA_of_ne h]
    exact (Stores.of_mem rfl rfl : Stores s _ _).2.mono (by simp)

/-- On FlatRAM an advance of TIMA sets the timer request or leaves IF alone (R609). -/
theorem State.tickTIMA_regIF {s : State} (hb : s.cfg.memoryBus = .flatRAM) :
    s.tickTIMA.regIF = s.regIF ∨ s.tickTIMA.regIF = s.regIF ||| 0x04 := by
  by_cases h : s.regTIMA = 0xFF
  · exact .inr ((State.tickTIMA_read8_of_overflow hb h addrIF).trans (if_pos rfl))
  · rw [State.tickTIMA_of_ne h]
    exact .inl ((State.write8_read8 hb addrTIMA addrIF _).trans (if_neg (by decide)))

/-! ## The programmable counter (R623) -/

theorem State.timaRuns_iff (s : State) :
    s.timaRuns = true ↔ s.cfg.tacEnableGates = false ∨ (s.read8 0xFF07).getLsbD 2 = true := by
  rw [State.timaRuns, Bool.or_eq_true, Bool.not_eq_true']
  rfl

theorem timaFreq_eq_getD (cfg : Config) (sel : BitVec 2) :
    timaFreq cfg sel = [cfg.timaFreq0, cfg.timaFreq1, cfg.timaFreq2, cfg.timaFreq3].getD sel.toNat 0 := by
  have hlt := sel.isLt
  unfold timaFreq
  generalize sel.toNat = n at hlt
  interval_cases n <;> rfl

theorem toNat_tacSel (tac : Byte) : (tacSel tac).toNat = tac.toNat % 4 := by
  rw [tacSel, BitVec.extractLsb'_toNat, Nat.shiftRight_zero]

/-- The period that TAC selects (R10, R69). -/
theorem timaPeriod_tacSel (cfg : Config) (tac : Byte) :
    timaPeriod cfg (tacSel tac) = cfg.systemClockRate /
      [cfg.timaFreq0, cfg.timaFreq1, cfg.timaFreq2, cfg.timaFreq3].getD (tac.toNat % 4) 0 := by
  rw [timaPeriod, timaFreq_eq_getD, toNat_tacSel]

/-- The countdown set to the period that TAC selects. -/
def State.reloadTimaCounter (s : State) : State :=
  { s with timaCounter := (timaPeriod s.cfg (tacSel s.regTAC) : Int) }

section
variable {s : State} {c : Nat}

theorem State.counterUpdate_of_stopped (h : ¬ s.timaRuns = true) : s.counterUpdate c = s := if_neg h

theorem State.counterUpdate_of_pos (hruns : s.timaRuns = true) (h : 0 < s.timaCounter - (c : Int)) :
    s.counterUpdate c = { s with timaCounter := s.timaCounter - c } :=
  (if_pos hruns).trans (if_neg (not_le.mpr h))

theorem State.counterUpdate_of_expired (hruns : s.timaRuns = true) (h : s.timaCounter - (c : Int) ≤ 0) :
    s.counterUpdate c = s.reloadTimaCounter.tickTIMA :=
  (if_pos hruns).trans (if_pos h)

end

/-- The counter leaves memory alone, or it expires and TIMA advances. -/
theorem State.counterUpdate_cases (s : State) (c : Nat) :
    (∀ a, (s.counterUpdate c).read8 a = s.read8 a) ∨ s.counterUpdate c = s.reloadTimaCounter.tickTIMA := by
  by_cases hruns : s.timaRuns = true
  · rcases lt_or_ge 0 (s.timaCounter - (c : Int)) with h | h
    · exact .inl fun a => by rw [State.counterUpdate_of_pos hruns h]; rfl
    · exact .inr (State.counterUpdate_of_expired hruns h)
  · exact .inl fun a => by rw [State.counterUpdate_of_stopped hruns]

theorem State.counterUpdate_sameMemBut (s : State) (c : Nat) : SameMemBut s (s.counterUpdate c) [addrTIMA, addrIF] := by
  rcases s.counterUpdate_cases c with h | e
  · exact fun _ a _ => h a
  · rw [e]
    exact s.reloadTimaCounter.tickTIMA_sameMemBut

theorem State.counterUpdate_regIF {s : State} {c : Nat} (hb : s.cfg.memoryBus = .flatRAM) :
    (s.counterUpdate c).regIF = s.regIF ∨ (s.counterUpdate c).regIF = s.regIF ||| 0x04 := by
  rcases s.counterUpdate_cases c with h | e
  · exact .inl (h addrIF)
  · rw [e]
    exact State.tickTIMA_regIF (s := s.reloadTimaCounter) hb

end Sys2Proof.Machine

namespace Sys2Proof.Proofs

open Sys2Proof Sys2Proof.Machine

/-- Settles O19: counting down and expiring are the two branches of the divider. -/
theorem dividerCountsDownAndAdvancesDIV : Obligations.DividerCountsDownAndAdvancesDIV := by
  unfold Obligations.DividerCountsDownAndAdvancesDIV
  intro s c t
  refine ⟨State.dividerUpdate_of_pos, fun h => ⟨?period, ?written, ?frame⟩⟩
  case period => exact congrArg State.divCounter (State.dividerUpdate_of_expired h)
  case written =>
    have hv : BitVec.ofNat 8 (((s.read8 0xFF04).toNat + 1) % 256) = s.regDIV + 1 :=
      (BitVec.eq_of_toNat_eq (Nat.mod_mod _ 256)).trans (ofNat_toNat_succ s.regDIV)
    rw [hv]
    exact ⟨State.dividerUpdate_stores h, State.dividerUpdate_holds h⟩
  case frame =>
    have ht : t = { s with divCounter := (s.cfg.divPeriod : Int) }.tickDIV := State.dividerUpdate_of_expired h
    rw [ht]
    rfl

/-- Settles O20: the counter stands still, counts down or expires, and on expiry TIMA advances or is reloaded. -/
theorem counterCountsDownAndReloadsTIMA : Obligations.CounterCountsDownAndReloadsTIMA := by
  unfold Obligations.CounterCountsDownAndReloadsTIMA
  intro s c t runs freq
  have hruns : s.timaRuns = true ↔ runs := s.timaRuns_iff
  refine ⟨fun h => State.counterUpdate_of_stopped (h ∘ hruns.mp), fun h hpos => ?_, fun h hexp => ?_⟩
  · exact State.counterUpdate_of_pos (hruns.mpr h) hpos
  · have ht : t = s.reloadTimaCounter.tickTIMA := State.counterUpdate_of_expired (hruns.mpr h) hexp
    have honly := congrArg (fun u => { u with timaCounter := s.timaCounter }) s.reloadTimaCounter.tickTIMA_onlyMem
    rw [ht]
    refine ⟨?period, honly, fun hne => ?counts, fun hff => ?reloads⟩
    case period =>
      rw [State.tickTIMA_timaCounter]
      exact congrArg Nat.cast (timaPeriod_tacSel s.cfg s.regTAC)
    case counts =>
      rw [ofNat_toNat_succ, State.tickTIMA_of_ne (s := s.reloadTimaCounter) hne]
      exact ⟨Stores.of_mem rfl rfl, fun hb => State.write8_read8_same (s := s.reloadTimaCounter) hb addrTIMA _⟩
    case reloads =>
      refine ⟨?_, fun hb => ?_, fun hb => ?_⟩
      · rw [State.tickTIMA_of_overflow (s := s.reloadTimaCounter) hff]
        exact Stores.of_mem rfl rfl
      · exact (State.tickTIMA_read8_of_overflow (s := s.reloadTimaCounter) hb hff addrTIMA).trans rfl
      · exact (State.tickTIMA_read8_of_overflow (s := s.reloadTimaCounter) hb hff addrIF).trans rfl

/-- Settles O21: the divider writes DIV at most, and the counter TIMA and IF, of which it sets the timer's bit. -/
theorem timersTouchOnlyTheirOwnState : Obligations.TimersTouchOnlyTheirOwnState := by
  unfold Obligations.TimersTouchOnlyTheirOwnState
  intro s c t
  have hcfg : (s.dividerUpdate c).cfg = s.cfg := (congrArg State.cfg (s.dividerUpdate_only c).eq :)
  refine ⟨fun q _ => s.timerUpdate_reg8 c q, s.timerUpdate_flags c, s.timerUpdate_sp c, s.timerUpdate_pc c,
    ⟨s.timerUpdate_ime c, s.timerUpdate_eiPending c, s.timerUpdate_halted c⟩, s.timerUpdate_haltBug c,
    s.timerUpdate_cycleCounter c, s.timerUpdate_fault c, s.timerUpdate_cfg c,
    (s.dividerUpdate_sameMemBut c).trans hcfg ((s.dividerUpdate c).counterUpdate_sameMemBut c), rfl, fun hb => ?request⟩
  case request =>
    have hif : (s.dividerUpdate c).regIF = s.regIF :=
      s.dividerUpdate_sameMemBut c (hb ▸ flatRAM_meetsContract) addrIF (by decide)
    have h := State.counterUpdate_regIF (s := s.dividerUpdate c) (c := c) (by rw [hcfg, hb])
    rwa [hif] at h

end Sys2Proof.Proofs
end

section
/-! PROOFS. Frames (R628): a call of `runFrame` is a number of calls of `step` below the budget and what ends them; with the
costs of the rules it ends, and a fault ends every later frame too. -/

namespace Sys2Proof.Machine

/-! ## Calls below the budget -/

theorem okCalls_succ_iff (k : Nat) (s t : State) :
    okCalls (k + 1) s = some t ↔ ∃ u, step s = .next u ∧ okCalls k u = some t := by
  rcases step_answers s with ⟨v, h⟩ | ⟨f, h⟩
  · rw [okCalls, (stepCall_ok_iff s v _).mpr ⟨h, rfl⟩, h]
    simp
  · rw [okCalls, (stepCall_fault_iff s _ f).mpr ⟨h, rfl⟩, h]
    simp

theorem runsBelow_zero_iff (budget : Nat) (s t : State) : RunsBelow budget 0 s t ↔ s = t := by
  simp [RunsBelow, okCalls]

/-- The first of the calls, and those after it. -/
theorem runsBelow_succ_iff (budget k : Nat) (s t : State) :
    RunsBelow budget (k + 1) s t ↔
      s.cycleCounter < budget ∧ ∃ u, step s = .next u ∧ RunsBelow budget k u t := by
  constructor
  · rintro ⟨hcalls, hbelow⟩
    obtain ⟨u, hstep, hcalls⟩ := (okCalls_succ_iff ..).mp hcalls
    obtain ⟨_, ⟨rfl⟩, hlt⟩ := hbelow 0 k.succ_pos
    refine ⟨hlt, u, hstep, hcalls, fun j hj => ?_⟩
    obtain ⟨v, hv, hvlt⟩ := hbelow (j + 1) (Nat.succ_lt_succ hj)
    obtain ⟨u', hstep', hv⟩ := (okCalls_succ_iff ..).mp hv
    cases hstep.symm.trans hstep'
    exact ⟨v, hv, hvlt⟩
  · rintro ⟨hlt, u, hstep, hcalls, hbelow⟩
    refine ⟨(okCalls_succ_iff ..).mpr ⟨u, hstep, hcalls⟩, fun j hj => ?_⟩
    cases j with
    | zero => exact ⟨s, rfl, hlt⟩
    | succ j =>
      obtain ⟨v, hv, hvlt⟩ := hbelow j (Nat.lt_of_succ_lt_succ hj)
      exact ⟨v, (okCalls_succ_iff ..).mpr ⟨u, hstep, hv⟩, hvlt⟩

/-- How a frame ends in the state `u` that its calls have led to: the budget is reached, or the next call is no Ok. -/
inductive FrameEnds (budget : Nat) (u : State) : State → FrameReturn → Prop where
  | ok (h : budget ≤ u.cycleCounter) : FrameEnds budget u u (.ok u.cycleCounter)
  | fault {t : State} {f : Fault} (h : u.cycleCounter < budget) (hcall : stepCall u = (t, .fault f)) :
      FrameEnds budget u t (.fault f)

/-! ## The loop -/

theorem frameLoop_of_reached {s : State} (h : frameBudget s.cfg ≤ s.cycleCounter) (fuel : Nat) :
    frameLoop fuel s = (s, .ok s.cycleCounter) := by
  cases fuel <;> rw [frameLoop, if_pos h]

theorem frameLoop_zero_of_below {s : State} (h : s.cycleCounter < frameBudget s.cfg) :
    frameLoop 0 s = (s, .running) := by
  rw [frameLoop, if_neg (not_le.mpr h)]

theorem frameLoop_succ_of_next {s t : State} (h : s.cycleCounter < frameBudget s.cfg) (hstep : step s = .next t)
    (k : Nat) : frameLoop (k + 1) s = frameLoop k t := by
  rw [frameLoop, if_neg (not_le.mpr h), (stepCall_ok_iff s t _).mpr ⟨hstep, rfl⟩]

theorem frameLoop_succ_of_fault {s t : State} {f : Fault} (h : s.cycleCounter < frameBudget s.cfg)
    (hcall : stepCall s = (t, .fault f)) (k : Nat) : frameLoop (k + 1) s = (t, .fault f) := by
  rw [frameLoop, if_neg (not_le.mpr h), hcall]

/-- A look at a frame that sees it return sees calls below the budget and what ends them. -/
theorem exists_frameEnds_of_frameLoop {t : State} {r : FrameReturn} (hr : r ≠ .running) :
    ∀ (fuel : Nat) {s : State}, frameLoop fuel s = (t, r) →
      ∃ k u, RunsBelow (frameBudget s.cfg) k s u ∧ FrameEnds (frameBudget s.cfg) u t r := by
  intro fuel
  induction fuel with
  | zero =>
    intro s h
    rcases lt_or_ge s.cycleCounter (frameBudget s.cfg) with hlt | hge
    · rw [frameLoop_zero_of_below hlt] at h
      cases h
      exact absurd rfl hr
    · rw [frameLoop_of_reached hge] at h
      cases h
      exact ⟨0, _, (runsBelow_zero_iff ..).mpr rfl, .ok hge⟩
  | succ fuel ih =>
    intro s h
    rcases lt_or_ge s.cycleCounter (frameBudget s.cfg) with hlt | hge
    · rcases step_answers s with ⟨v, hstep⟩ | ⟨f, hstep⟩
      · rw [frameLoop_succ_of_next hlt hstep] at h
        obtain ⟨k, u, hruns, hends⟩ := ih h
        rw [step_cfg hstep] at hruns hends
        exact ⟨k + 1, u, (runsBelow_succ_iff ..).mpr ⟨hlt, v, hstep, hruns⟩, hends⟩
      · have hcall := (stepCall_fault_iff s _ f).mpr ⟨hstep, rfl⟩
        rw [frameLoop_succ_of_fault hlt hcall] at h
        cases h
        exact ⟨0, s, (runsBelow_zero_iff ..).mpr rfl, .fault hlt hcall⟩
    · rw [frameLoop_of_reached hge] at h
      cases h
      exact ⟨0, _, (runsBelow_zero_iff ..).mpr rfl, .ok hge⟩

/-- Looked at for one step more than its calls, a frame returns what ends them. -/
theorem frameLoop_of_frameEnds {u t : State} {r : FrameReturn} :
    ∀ (k : Nat) {s : State}, RunsBelow (frameBudget s.cfg) k s u → FrameEnds (frameBudget s.cfg) u t r →
      frameLoop (k + 1) s = (t, r) := by
  intro k
  induction k with
  | zero =>
    intro s hruns hends
    obtain rfl := (runsBelow_zero_iff ..).mp hruns
    cases hends with
    | ok h => exact frameLoop_of_reached h 1
    | fault h hcall => exact frameLoop_succ_of_fault h hcall 0
  | succ k ih =>
    intro s hruns hends
    obtain ⟨hlt, v, hstep, hruns⟩ := (runsBelow_succ_iff ..).mp hruns
    rw [← step_cfg hstep] at hruns hends
    rw [frameLoop_succ_of_next hlt hstep, ih hruns hends]

/-- A frame is calls below the budget, from cycleCounter 0, and what ends them (R628). -/
theorem frameReturns_iff (s t : State) (r : FrameReturn) :
    FrameReturns s t r ↔ ∃ k u, RunsBelow (frameBudget s.cfg) k { s with cycleCounter := 0 } u ∧
      FrameEnds (frameBudget s.cfg) u t r := by
  constructor
  · rintro ⟨hr, fuel, h⟩
    exact exists_frameEnds_of_frameLoop hr fuel h
  · rintro ⟨k, u, hruns, hends⟩
    refine ⟨?_, k + 1, frameLoop_of_frameEnds k hruns hends⟩
    cases hends <;> nofun

/-! ## Frames with the costs of the rules -/

/-- Only the last call can pass the budget, so the overrun is less than its cost. -/
theorem RunsBelow.overrun {budget : Nat} {t : State} : ∀ {k : Nat} {s : State}, CostsPositive s.cfg →
    RunsBelow budget k s t → s.cycleCounter < budget + maxStepCost s.cfg →
    t.cycleCounter < budget + maxStepCost s.cfg := by
  intro k
  induction k with
  | zero =>
    intro s _ hruns hs
    obtain rfl := (runsBelow_zero_iff ..).mp hruns
    exact hs
  | succ k ih =>
    intro s hcosts hruns _
    obtain ⟨hlt, u, hstep, hruns⟩ := (runsBelow_succ_iff ..).mp hruns
    have hbounds := step_cycleCounter_bounds hcosts hstep
    have hcfg := step_cfg hstep
    have h := ih (hcfg.symm ▸ hcosts) hruns
    rw [hcfg] at h
    exact h (by omega)

theorem maxStepCost_pos (cfg : Config) : 0 < maxStepCost cfg := by
  rw [maxStepCost]
  omega

/-- The frame has returned Ok or a fault. -/
def FrameReturn.Ends (r : FrameReturn) : Prop := (∃ n, r = .ok n) ∨ ∃ f, r = .fault f

/-- Each step counts a cycle at least, so the fuel need not pass what is left of the budget. -/
theorem frameLoop_ends (fuel : Nat) : ∀ {s : State}, CostsPositive s.cfg →
    frameBudget s.cfg ≤ s.cycleCounter + fuel → (frameLoop fuel s).2.Ends := by
  induction fuel with
  | zero =>
    intro s _ h
    rw [frameLoop_of_reached h]
    exact .inl ⟨_, rfl⟩
  | succ fuel ih =>
    intro s hcosts h
    rcases lt_or_ge s.cycleCounter (frameBudget s.cfg) with hlt | hge
    · rcases step_answers s with ⟨t, hstep⟩ | ⟨f, hstep⟩
      · have hcfg := step_cfg hstep
        have hmore := (step_cycleCounter_bounds hcosts hstep).1
        rw [frameLoop_succ_of_next hlt hstep]
        exact ih (hcfg.symm ▸ hcosts) (by rw [hcfg]; omega)
      · rw [frameLoop_succ_of_fault hlt ((stepCall_fault_iff s _ f).mpr ⟨hstep, rfl⟩)]
        exact .inr ⟨f, rfl⟩
    · rw [frameLoop_of_reached hge]
      exact .inl ⟨_, rfl⟩

/-! ## Frames of a faulted core -/

/-- With a fault recorded and a budget, a frame returns the fault from its first call (R602). -/
theorem frameReturns_of_fault {s : State} {f : Fault} (h : s.fault = some f) (hbudget : 0 < frameBudget s.cfg) :
    FrameReturns s { s with cycleCounter := 0 } (.fault f) :=
  (frameReturns_iff ..).mpr ⟨0, _, (runsBelow_zero_iff ..).mpr rfl, .fault hbudget (stepCall_of_fault h)⟩

end Sys2Proof.Machine

namespace Sys2Proof.Proofs

open Sys2Proof Sys2Proof.Machine

/-- Settles O22: a frame's calls and what ends them, by the two ways to end. -/
theorem frameStopsAtTheFirstStepPastItsBudget : Obligations.FrameStopsAtTheFirstStepPastItsBudget := by
  unfold Obligations.FrameStopsAtTheFirstStepPastItsBudget
  intro s t s0 budget
  have hok (n : Nat) : FrameReturns s t (.ok n) ↔
      ∃ k, RunsBelow budget k s0 t ∧ budget ≤ t.cycleCounter ∧ n = t.cycleCounter := by
    rw [frameReturns_iff]
    constructor
    · rintro ⟨k, u, hruns, ⟨h⟩⟩
      exact ⟨k, hruns, h, rfl⟩
    · rintro ⟨k, hruns, h, rfl⟩
      exact ⟨k, t, hruns, .ok h⟩
  refine ⟨hok, fun f => ?fault, fun n hcosts h => ?overrun⟩
  case fault =>
    rw [frameReturns_iff]
    constructor
    · rintro ⟨k, u, hruns, ⟨⟩ | ⟨h, hcall⟩⟩
      exact ⟨k, u, hruns, h, hcall⟩
    · rintro ⟨k, u, hruns, h, hcall⟩
      exact ⟨k, u, hruns, .fault h hcall⟩
  case overrun =>
    obtain ⟨k, hruns, -, rfl⟩ := (hok n).mp h
    exact hruns.overrun (s := s0) hcosts (Nat.add_pos_right budget (maxStepCost_pos s.cfg))

/-- Settles O23: each step counts a cycle at least, and looking longer changes no result. -/
theorem frameAlwaysEnds : Obligations.FrameAlwaysEnds := by
  unfold Obligations.FrameAlwaysEnds
  intro s
  refine ⟨fun hcosts => ?_, fun t t' r r' h h' => ?_⟩
  · have hends : (runFrame (frameBudget s.cfg) s).2.Ends :=
      frameLoop_ends _ (s := { s with cycleCounter := 0 }) hcosts (Nat.le_add_left _ _)
    refine ⟨_, _, ⟨?_, _, rfl⟩, rfl, hends⟩
    rcases hends with ⟨n, e⟩ | ⟨f, e⟩ <;> exact e ▸ nofun
  · obtain ⟨rfl, rfl⟩ := h.unique h'
    rfl

/-- Settles O24: the last call of a faulted frame records the fault, and the next frame's first call returns it. -/
theorem faultEndsTheFrame : Obligations.FaultEndsTheFrame := by
  unfold Obligations.FaultEndsTheFrame
  intro s t f h
  obtain ⟨k, u, -, ⟨⟩ | ⟨-, hcall⟩⟩ := (frameReturns_iff s t _).mp h
  obtain ⟨-, rfl⟩ := (stepCall_fault_iff u t f).mp hcall
  refine ⟨rfl, fun hbudget t' r => ?_⟩
  have hnext := frameReturns_of_fault (u.recordFault_fault f) hbudget
  constructor
  · exact fun h' => h'.unique hnext
  · rintro ⟨rfl, rfl⟩
    exact hnext

end Sys2Proof.Proofs
end

section
/-! PROOFS. Reset (R700 to R707): which image a reset takes, what the copy of the image leaves in memory, and the state that
is left. -/

namespace Sys2Proof.Machine

/-! ## The copy of the image (R703) -/

/-- Bytes copied from `a` on are byte writes to the addresses from `a` on, in their order. -/
theorem State.writeList_eq_writes (bytes : List Byte) : ∀ (s : State) (a : Word),
    s.writeList a bytes =
      s.writes ((List.range bytes.length).map fun j => (a + BitVec.ofNat 16 j, bytes.getD j 0)) := by
  induction bytes with
  | nil => intro s a; rfl
  | cons v vs ih =>
    intro s a
    have hnext (j : Nat) : a + 1 + BitVec.ofNat 16 j = a + BitVec.ofNat 16 (j + 1) := by bv_omega
    rw [State.writeList, ih, List.length_cons, List.range_succ_eq_map, List.map_cons, List.map_map, State.writes_cons]
    simp only [hnext]
    simp [Function.comp_def]

/-- On FlatRAM the addresses that bytes are copied to hold these bytes, and every other one what it held, if the copy does
not wrap. -/
theorem State.writeList_read8 (bytes : List Byte) : ∀ {s : State}, s.cfg.memoryBus = .flatRAM →
    bytes.length ≤ 65536 → ∀ a k : Word,
    (s.writeList a bytes).read8 k = if (k - a).toNat < bytes.length then bytes.getD (k - a).toNat 0 else s.read8 k := by
  induction bytes with
  | nil => intro s _ _ a k; rfl
  | cons v vs ih =>
    intro s hb hlen a k
    rw [List.length_cons] at hlen ⊢
    rw [State.writeList, ih (s := s.write8 a v) hb (by omega), State.write8_read8 hb]
    by_cases hk : k = a
    · have hfirst : (k - a).toNat = 0 := by bv_omega
      have hlast : (k - (a + 1)).toNat = 65535 := by bv_omega
      rw [hfirst, hlast, if_neg (by omega), if_pos hk, if_pos (by omega), List.getD_cons_zero]
    · have hnext : (k - a).toNat = (k - (a + 1)).toNat + 1 := by bv_omega
      rw [hnext, List.getD_cons_succ, if_neg hk]
      simp only [Nat.add_lt_add_iff_right]

/-! ## What a reset answers (R700, R703) -/

/-- The state a reset leaves that takes the image: the first `BOOT_LEN` bytes copied over the reset values. -/
def State.resetWith (s : State) (image : List Byte) : State :=
  (State.resetOver s.cfg s.mem).writeList 0x0000 (image.take s.cfg.bootLen)

/-- Outside memory a reset leaves the reset values (R701, R702, R704). -/
theorem State.resetWith_only (s : State) (image : List Byte) :
    { s.resetWith image with mem := s.mem } = State.resetOver s.cfg s.mem :=
  State.writeList_only _ _ _

theorem State.hostReset_none (s : State) : s.hostReset none = .bootLoadFailure := rfl

section
variable {s : State} {image : List Byte}

theorem State.hostReset_of_short (h : image.length < s.cfg.bootLen) : s.hostReset (some image) = .bootLoadFailure :=
  if_pos h

theorem State.hostReset_of_long (h : s.cfg.bootLen ≤ image.length) : s.hostReset (some image) = .ok (s.resetWith image) :=
  if_neg (not_lt.mpr h)

/-- A reset writes the bytes of the boot region, in the order of their addresses. -/
theorem State.resetWith_mem (h : s.cfg.bootLen ≤ image.length) : (s.resetWith image).mem =
    (s.writes ((List.range s.cfg.bootLen).map fun j => (BitVec.ofNat 16 j, image.getD j 0))).mem := by
  have hwrites : ((List.range s.cfg.bootLen).map fun j =>
      ((0x0000 : Word) + BitVec.ofNat 16 j, (image.take s.cfg.bootLen).getD j 0)) =
      (List.range s.cfg.bootLen).map fun j => (BitVec.ofNat 16 j, image.getD j 0) := by
    refine List.map_congr_left fun j hj => ?_
    simp [List.mem_range.mp hj]
  rw [State.resetWith, State.writeList_eq_writes, List.length_take, min_eq_left h, hwrites]
  exact State.writes_mem_congr _ rfl rfl

/-- On FlatRAM the boot region holds the image after a reset, and every other byte is kept (R703, R706). -/
theorem State.resetWith_read8 (hb : s.cfg.memoryBus = .flatRAM) (h : s.cfg.bootLen ≤ image.length)
    (hfits : s.cfg.bootLen ≤ 65536) (a : Word) :
    (s.resetWith image).read8 a = if a.toNat < s.cfg.bootLen then image.getD a.toNat 0 else s.read8 a := by
  have hlen : (image.take s.cfg.bootLen).length = s.cfg.bootLen := by rw [List.length_take, min_eq_left h]
  rw [State.resetWith, State.writeList_read8 _ (s := State.resetOver s.cfg s.mem) hb (by omega), hlen, sub_zero]
  split
  case isTrue ha => simp [ha]
  case isFalse => rfl

end

/-! ## The reset values (R701 to R704) -/

/-- The pairs of R701; that BC, DE and HL take the values in this order is decision D15. -/
theorem State.resetOver_pairs (cfg : Config) (m : Store) :
    (State.resetOver cfg m).af = 0x01B0 ∧ (State.resetOver cfg m).bc = 0x0013 ∧ (State.resetOver cfg m).de = 0x00D8 ∧
      (State.resetOver cfg m).hl = 0x014D :=
  ⟨(by decide : join 0x01 (Flags.ofByte 0xB0).toByte = 0x01B0), (by decide : join (hi 0x0013) (lo 0x0013) = 0x0013),
    (by decide : join (hi 0x00D8) (lo 0x00D8) = 0x00D8), (by decide : join (hi 0x014D) (lo 0x014D) = 0x014D)⟩

/-- The reset values meet the invariant where the parameters and memory are well-formed. -/
theorem State.resetOver_inv {cfg : Config} {m : Store} (hcfg : cfg.wf = true) (hm : m.wf = true) :
    Inv (State.resetOver cfg m) := by
  have hdiv : (0 : Int) < cfg.divPeriod := Int.natCast_pos.mpr (Config.wf_divPeriod_pos hcfg)
  have hcount : CountdownsInRange (State.resetOver cfg m) :=
    ⟨hdiv, le_refl _, fun hperiods => Int.natCast_pos.mpr (hperiods 0), 0, le_refl _⟩
  exact ⟨hcfg, hm, hcount, fun _ => rfl, fun _ => rfl, fun _ => ⟨rfl, rfl, rfl⟩⟩

/-- A reset from well-formed parameters and memory meets the invariant, whatever the state and the image. -/
theorem State.resetWith_inv {s : State} (hcfg : s.cfg.wf = true) (hm : s.mem.wf = true) (image : List Byte) :
    Inv (s.resetWith image) := by
  have hwf : (s.resetWith image).mem.wf = true := State.writeList_wf _ _ hm
  have hinv := State.resetOver_inv hcfg hm
  rw [← s.resetWith_only image] at hinv
  obtain ⟨hcfg', -, hcount, hctl⟩ := hinv
  exact ⟨hcfg', hwf, hcount, hctl⟩

/-! ## The blank image (log entry 3) -/

/-- Zero bytes copied over the blank memory leave it blank. -/
theorem State.reset_writeList_zeros (n : Nat) : ∀ a : Word,
    State.reset.writeList a (List.replicate n 0) = State.reset := by
  induction n with
  | zero => intro a; rfl
  | succ n ih =>
    intro a
    have hblank : State.reset.write8 a 0 = State.reset := rfl
    rw [List.replicate_succ, State.writeList, hblank, ih]

/-- With the default parameters the reset values are those of R707. -/
theorem State.resetOver_default : State.resetOver State.reset.cfg State.reset.mem = State.reset := by decide

theorem State.reset_resetWith_zeros (n : Nat) : State.reset.resetWith (List.replicate n 0) = State.reset := by
  rw [State.resetWith, State.resetOver_default, List.take_replicate, State.reset_writeList_zeros]

end Sys2Proof.Machine

namespace Sys2Proof.Proofs

open Sys2Proof Sys2Proof.Machine

/-- Settles O25: the reset values are kept by the copy of the image, which writes the boot region alone. -/
theorem hostResetSetsTheDocumentedState : Obligations.HostResetSetsTheDocumentedState := by
  unfold Obligations.HostResetSetsTheDocumentedState
  intro s image hlong hfits
  have hregs := s.resetWith_only image
  have hcfg : (s.resetWith image).cfg = s.cfg := (congrArg State.cfg hregs :)
  have ⟨haf, hbc, hde, hhl⟩ := State.resetOver_pairs s.cfg s.mem
  refine ⟨s.resetWith image, State.hostReset_of_long hlong,
    (congrArg State.af hregs).trans haf, (congrArg State.bc hregs).trans hbc, (congrArg State.de hregs).trans hde,
    (congrArg State.hl hregs).trans hhl, (congrArg State.sp hregs :), (congrArg State.pc hregs :),
    (congrArg State.ime hregs :), (congrArg State.halted hregs :), (congrArg State.haltBug hregs :),
    (congrArg State.eiPending hregs :), (congrArg State.fault hregs :), (congrArg State.divCounter hregs :),
    (congrArg State.timaCounter hregs :), (congrArg State.cycleCounter hregs :), hcfg,
    Stores.of_mem (State.resetWith_mem hlong) hcfg, fun a ha hb => ?inside, fun a ha hb => ?outside⟩
  case inside => rw [State.resetWith_read8 hb hlong hfits, if_pos ha]
  case outside => rw [State.resetWith_read8 hb hlong hfits, if_neg (not_lt.mpr ha)]

/-- Settles O26: the two cases in which a reset takes no image. -/
theorem shortOrMissingBootImageFails : Obligations.ShortOrMissingBootImageFails := by
  unfold Obligations.ShortOrMissingBootImageFails
  exact fun s => ⟨s.hostReset_none, fun _ => State.hostReset_of_short, rfl⟩

/-- Settles O27: the blank image changes no byte of blank memory, and the reset values are those of R707. -/
theorem resetStateIsTheDefaultReset : Obligations.ResetStateIsTheDefaultReset := by
  unfold Obligations.ResetStateIsTheDefaultReset
  have hlong : State.reset.cfg.bootLen ≤ (List.replicate 256 (0 : Byte)).length := List.length_replicate.ge
  refine ⟨?reset, by decide, by decide, by decide, by decide, rfl, rfl, rfl, rfl, rfl, fun _ => rfl⟩
  case reset => rw [State.hostReset_of_long hlong, State.reset_resetWith_zeros]

/-- Settles O13: the reset state is what a reset with the blank image leaves, and every reset leaves the invariant. -/
theorem resetMeetsTheInvariant : Obligations.ResetMeetsTheInvariant := by
  unfold Obligations.ResetMeetsTheInvariant
  rw [← State.reset_resetWith_zeros 256]
  exact State.resetWith_inv (by decide) rfl _

end Sys2Proof.Proofs
end
